-- ==== Sys2Proof/Word.lean ====
section
/-! DEFINITION. The widths of the block's values (R11, R13, R52, R57): a host register is 16 bits, a wire byte is
8 bits, the device address is 7 bits and a register offset is 2 bits. The block has no signed value (R13). -/

namespace Sys2Proof

/-- One host register, or one command word: 16 bits, always moved whole (R11, R57). -/
abbrev Word := BitVec 16

/-- One byte on the wire (R11). -/
abbrev Byte := BitVec 8

/-- The 7-bit device address (R7, R24). -/
abbrev Addr7 := BitVec 7

/-- A register's offset in the host register space: 2 bits, offsets 0 to 3 (R50, R59). -/
abbrev Offset := BitVec 2

/-- A level: `true` is 1 (high), `false` is 0 (low) (R15). -/
abbrev Level := Bool

end Sys2Proof
end

