-- ==== Sys2Proof/Config.lean ====
section
/-! DEFINITION. What a build of the block fixes (the parameters of 00_scope.md, R7 to R10 and R18) and the values
the spec leaves free (93_implementation_defined.md). Nothing here has a body that a proof could look into: a claim
proved over these constants is proved for every build and for every draw. -/

namespace Sys2Proof

/-- The two lines, `Line = {SCL, SDA}` (R11, R100). -/
inductive Line where
  | scl
  | sda
  deriving DecidableEq, Repr, Inhabited

/-- One value for each of the two lines. -/
structure PerLine (α : Type) where
  scl : α
  sda : α
  deriving DecidableEq, Repr, Inhabited

/-- The eleven delay sites of the source's sequences, a closed set (R8, R104). -/
inductive Site where
  | start1
  | start2
  | stop1
  | stop2
  | rstart1
  | rstart2
  | rstart3
  | bitSetup
  | bitHigh
  | bitLow
  | ackSetup
  deriving DecidableEq, Repr, Inhabited

/-- The direction of a pad: INPUT lets go of the wire, OUTPUT drives it with the latch (R37). -/
inductive PadDir where
  | input
  | output
  deriving DecidableEq, Repr, Inhabited

/-- The output latch of a pad (R37). -/
inductive PadLatch where
  | low
  | high
  deriving DecidableEq, Repr, Inhabited

/-- `P_DELAY : Site -> Nat` (R8), written out site by site so that it is plain data. Zero is legal at every site. -/
structure Delays where
  start1 : Nat
  start2 : Nat
  stop1 : Nat
  stop2 : Nat
  rstart1 : Nat
  rstart2 : Nat
  rstart3 : Nat
  bitSetup : Nat
  bitHigh : Nat
  bitLow : Nat
  ackSetup : Nat
  deriving DecidableEq, Repr

/-- The build-time parameters of the block (R7, R8, R9, R10, R18; R235 step 2: "no register sets them"). -/
structure Params where
  /-- `P_ADDR`: the device address (R7). -/
  pAddr : Addr7
  /-- `P_DELAY`: the ticks of each delay site (R8). -/
  pDelay : Delays
  /-- `P_REPORT_TXN_NACK`: whether WRDEV reports its two samples (R9). -/
  pReportTxnNack : Bool
  /-- `P_PIN_SCL`: the platform's identifier of the SCL pin; no rule reads it (R10). -/
  pPinScl : Nat
  /-- `P_PIN_SDA`: the platform's identifier of the SDA pin; no rule reads it (R10). -/
  pPinSda : Nat
  /-- `P_BASE`: where the platform places the four registers; no rule reads it (R18). -/
  pBase : Nat
  deriving DecidableEq, Repr

namespace Config

/-- `P_ADDR` of this build: any 7-bit value (R7; 93 item 1). -/
opaque pAddr : Addr7

/-- `P_DELAY` of this build: any number of ticks at each site (R8; 93 item 2). -/
opaque pDelay : Site → Nat

/-- `P_REPORT_TXN_NACK` of this build: either value (R9; 93 item 3). -/
opaque pReportTxnNack : Bool

/-- `P_PIN_SCL` of this build (R10; 93 item 4). -/
opaque pPinScl : Nat

/-- `P_PIN_SDA` of this build (R10; 93 item 4). -/
opaque pPinSda : Nat

/-- `P_BASE` of this build (R18; 93 item 5). -/
opaque pBase : Nat

/-- FREE. The direction of each pad at power-up: unspecified until INIT (R42; 93 item 6). -/
opaque freePadDir : Line → PadDir

/-- FREE. The output latch of each pad at power-up: unspecified until INIT (R42; 93 item 6). -/
opaque freePadLatch : Line → PadLatch

/-- FREE. `EXT_LOW` of each line at each moment for which no environment turn is written down (R38; 93 item 9). -/
opaque freeExtLow : Nat → Line → Bool

/-- FREE. The level of a wire that the pad drives high while a device pulls it low (R112; 93 item 7). -/
opaque freeContention : Nat → Line → Level

/-- FREE. What READ_LEVEL returns on a pad whose direction is OUTPUT (R111; 93 item 8). -/
opaque freeReadLevel : Nat → Line → Level

/-- FREE. `gpio_req_mode` during a request that is no SET_DIR: R108 gives mode as an argument of SET_DIR only and says
nothing of the signal for the other two kinds. DESIGN CHOICE: a free level at each moment (log 22). -/
opaque freeReqMode : Nat → Bool

/-- The parameters of this build as one record. -/
def params : Params where
  pAddr := pAddr
  pDelay :=
    { start1 := pDelay .start1, start2 := pDelay .start2, stop1 := pDelay .stop1, stop2 := pDelay .stop2,
      rstart1 := pDelay .rstart1, rstart2 := pDelay .rstart2, rstart3 := pDelay .rstart3,
      bitSetup := pDelay .bitSetup, bitHigh := pDelay .bitHigh, bitLow := pDelay .bitLow,
      ackSetup := pDelay .ackSetup }
  pReportTxnNack := pReportTxnNack
  pPinScl := pPinScl
  pPinSda := pPinSda
  pBase := pBase

end Config

end Sys2Proof
end

