-- ==== Sys2Proof/Syntax.lean ====
section
/-! DEFINITION. The instructions: the five commands a host writes to CMD (R2, R72), one constructor for each row of
spec/opcode_table.json. -/

namespace Sys2Proof

/-- A command of the block. START, STOP and RSTART ignore their DATA field (R75), so they carry no operand; WRB and
WRDEV carry DATA, an unsigned byte used as it is (R71). -/
inductive Instr where
  /-- START, OP 0b001 (R72, R130). -/
  | start
  /-- STOP, OP 0b010 (R72, R133). -/
  | stop
  /-- RSTART, the repeated START, OP 0b011 (R72, R136). -/
  | rstart
  /-- `WRB v`, the byte write, OP 0b100 (R72, R150). -/
  | wrb (v : Byte)
  /-- `WRDEV d`, the one-byte transaction, OP 0b101 (R72, R170). -/
  | wrdev (d : Byte)
  deriving DecidableEq, Repr

end Sys2Proof
end

