-- ==== Sys2Proof/WellFormed.lean ====
section
/-! DEFINITION. What is checked before a statement of a host program may be assembled (R77: a value outside its range
is an error, not a truncation), and the well-formedness of an instruction, which its types already give. -/

namespace Sys2Proof

/-- A statement of a host program as it is written, its operands still unchecked numbers (R77, R78). -/
inductive Stmt where
  | start
  | stop
  | rstart
  | wrb (imm8 : Nat)
  | wrdev (imm8 : Nat)
  /-- `RD <off>`, a raw RegRead (R77). -/
  | rd (off : Nat)
  /-- `WR <off>, <imm16>`, a raw RegWrite (R77). -/
  | wr (off imm16 : Nat)
  /-- WAITIDLE, the polling loop (R78). -/
  | waitidle
  /-- CLRERR, clear both error bits (R78). -/
  | clrerr
  /-- `WRBW v`, WRB then WAITIDLE (R78). -/
  | wrbw (imm8 : Nat)
  /-- `SEND a, d`, a transaction built from the primitives (R78). -/
  | send (a d : Nat)
  deriving DecidableEq, Repr

/-- `<imm8>` must lie in 0 to 255 (R77). -/
def imm8Ok (n : Nat) : Bool := decide (n < 256)

/-- `<imm16>` is a whole register's value, 0 to 65535 (R77, R57). -/
def imm16Ok (n : Nat) : Bool := decide (n < 65536)

/-- `<off>` lies in 0 to 3 (R77, R59). -/
def offOk (n : Nat) : Bool := decide (n < 4)

/-- A statement whose operands are all in range (R77). -/
def Stmt.wf : Stmt → Bool
  | .start => true
  | .stop => true
  | .rstart => true
  | .wrb n => imm8Ok n
  | .wrdev n => imm8Ok n
  | .rd off => offOk off
  | .wr off v => offOk off && imm16Ok v
  | .waitidle => true
  | .clrerr => true
  | .wrbw n => imm8Ok n
  | .send a d => imm8Ok a && imm8Ok d

/-- Every instruction is well formed: its one operand is a byte by its type, and every byte is legal, because
`Legal` never looks at DATA (R73). -/
def Instr.wf : Instr → Bool
  | .start => true
  | .stop => true
  | .rstart => true
  | .wrb _ => true
  | .wrdev _ => true

end Sys2Proof
end

