-- ==== Sys2Proof/Decode.lean ====
section
/-! DEFINITION. The command word (30_encoding.md): its fields, `Legal`, the decoder, total on every 16-bit word and
rejecting by name, and after it the encoder, written from the same table (R70 to R77). -/

namespace Sys2Proof

/-- `w[2:0]`, the opcode (R70). -/
def opField (w : Word) : BitVec 3 := w.extractLsb' 0 3

/-- `w[7:3]`, reserved, must be zero (R70). -/
def rsvField (w : Word) : BitVec 5 := w.extractLsb' 3 5

/-- `w[15:8]`, the immediate byte operand, used as it is (R70, R71). -/
def dataField (w : Word) : Byte := w.extractLsb' 8 8

/-- The OP values of the opcode map (R72). -/
def opStart : BitVec 3 := 0b001#3
def opStop : BitVec 3 := 0b010#3
def opRstart : BitVec 3 := 0b011#3
def opWrb : BitVec 3 := 0b100#3
def opWrdev : BitVec 3 := 0b101#3

/-- `Legal(w)`: RSV is zero and OP is one of the five (R73). It never looks at DATA. -/
def Legal (w : Word) : Bool :=
  rsvField w == 0#5 &&
    (opField w == opStart || opField w == opStop || opField w == opRstart || opField w == opWrb ||
      opField w == opWrdev)

/-- Why a word is no command (R74). -/
inductive Reject where
  /-- RSV is not zero (R74). -/
  | reservedBits (rsv : BitVec 5)
  /-- OP is 0b000, 0b110 or 0b111 (R74). -/
  | reservedOpcode (op : BitVec 3)
  deriving DecidableEq, Repr

/-- The decoder: every 16-bit word is one command or is illegal (R72, R74, R76). -/
def decodeCmd (w : Word) : Except Reject Instr :=
  if rsvField w ≠ 0#5 then .error (.reservedBits (rsvField w))
  else if opField w = opStart then .ok .start
  else if opField w = opStop then .ok .stop
  else if opField w = opRstart then .ok .rstart
  else if opField w = opWrb then .ok (.wrb (dataField w))
  else if opField w = opWrdev then .ok (.wrdev (dataField w))
  else .error (.reservedOpcode (opField w))

/-- The same decoder without the reason of a rejection. -/
def decodeWord (w : Word) : Option Instr :=
  match decodeCmd w with
  | .ok i => some i
  | .error _ => none

/-- The decoder on the opcode table's numbering of bits. The block has one word to an instruction and no byte
addresses (R52, R76), so the table's bit k is bit k of the command word. -/
def decodeTableWord (nbits w : Nat) : Option Instr :=
  if w % 2 ^ nbits < 2 ^ 16 then decodeWord (BitVec.ofNat 16 (w % 2 ^ nbits)) else none

/-- A command word put together from its three fields (R70). -/
def cmdWord (data : Byte) (op : BitVec 3) : Word := data ++ 0#5 ++ op

/-- The encoder: DATA is 0x00 for START, STOP and RSTART (R72, R77). -/
def encode : Instr → Word
  | .start => cmdWord 0x00#8 opStart
  | .stop => cmdWord 0x00#8 opStop
  | .rstart => cmdWord 0x00#8 opRstart
  | .wrb v => cmdWord v opWrb
  | .wrdev d => cmdWord d opWrdev

end Sys2Proof
end

