-- ==== Sys2Proof/Machine/MicroOp.lean ====
section
/-! DEFINITION. The micro-operations every command expands into (R100) and the reset sequence INIT (R231). -/

namespace Sys2Proof.Machine

/-- What the block last commanded on a line (R15, R22). -/
inductive LineState where
  | released
  | drivenLow
  deriving DecidableEq, Repr, Inhabited

/-- The level the block applies to a line is a function of LINE alone: RELEASED lets the pull-up have it, DRIVEN_LOW
sinks it to ground (R23). -/
def LineState.level : LineState → Level
  | .released => true
  | .drivenLow => false

/-- Where an ACK sample goes, `Dest` (R100, R106). -/
inductive Dest where
  | nackField
  | txnAddr
  | txnData
  | discard
  deriving DecidableEq, Repr

/-- The closed set of micro-operations (R100). -/
inductive MicroOp where
  | release (l : Line)
  | driveLow (l : Line)
  | clearLatch (l : Line)
  | wait (s : Site)
  | sampleAck (d : Dest)
  deriving DecidableEq, Repr

/-- INIT: both directions, CLOCK before DATA, then both latches (R231; 90_conflicts.md C1). -/
def initSeq : List MicroOp :=
  [.release .scl, .release .sda, .clearLatch .scl, .clearLatch .sda]

end Sys2Proof.Machine
end

