-- ==== Sys2Proof/Machine/State.lean ====
section
/-! DEFINITION. The state of the machine as plain data: the block (R20 part 1), the pads (part 2), the inputs
from outside (part 3), the agents' pending work (R12), what an observer of the pin port sees (R117), and the reset
state (R42). -/

namespace Sys2Proof.Machine

/-- One host access still to be made (R53, R54), or the host's polling loop (R78). -/
inductive HostOp where
  /-- `RegRead(off)`. -/
  | read (off : Offset)
  /-- `RegWrite(off, v)`. -/
  | write (off : Offset) (v : Word)
  /-- WAITIDLE: read STATUS until BUSY is 0, one read a turn (R78). -/
  | waitIdle
  deriving DecidableEq, Repr

/-- Which agent moves (R12), or a change of the input `rst` (R230). A list of turns is one interleaving of the
agents' streams (R60) together with what the environment does. -/
inductive Turn where
  /-- The host makes its next access. -/
  | host
  /-- The sequencer runs one whole micro-operation (R28). -/
  | seq
  /-- The sequencer's clock ticks once (R29, R105, R250). -/
  | clk
  /-- The bus environment changes what it holds low (R38). -/
  | env (extLow : PerLine Bool)
  /-- The reset input takes a level (R230). -/
  | reset (rst : Bool)
  deriving DecidableEq, Repr

/-- What a micro-operation shows at the pin port (R108, R117). -/
inductive PinAct where
  /-- A SET_DIR request (R109). -/
  | setDir (l : Line) (mode : PadDir)
  /-- A CLEAR_LOW request (R110). -/
  | clearLow (l : Line)
  /-- A READ_LEVEL request (R111). -/
  | readLevel (l : Line)
  /-- No request: a delay site passed through, with its `P_DELAY` (R105, R117). -/
  | delay (s : Site) (ticks : Nat)
  deriving DecidableEq, Repr

/-- One entry of the pin trace: what was asked, and the level a READ_LEVEL received (R117). -/
structure PinEvent where
  act : PinAct
  rsp : Option Level
  deriving DecidableEq, Repr

/-- The two errors a CMD write can raise (R201, R202). -/
inductive ErrorKind where
  | illegal
  | busy
  deriving DecidableEq, Repr

/-- The machine's state. -/
structure State where
  /-- `LINE`, what the block last commanded on each line (R22). -/
  line : PerLine LineState
  /-- `ADDR`, the device address (R24). -/
  addr : Addr7
  /-- `NACK`, the sample of the last WRB (R25). -/
  nack : Bool
  /-- `ERR_ILLEGAL`, sticky (R26, R201). -/
  errIllegal : Bool
  /-- `ERR_BUSY`, sticky (R26, R202). -/
  errBusy : Bool
  /-- `TXN_ADDR_NACK` (R33). -/
  txnAddrNack : Bool
  /-- `TXN_DATA_NACK` (R33). -/
  txnDataNack : Bool
  /-- `SEQ.prog`, the expansion being run; empty when the block is idle (R27). -/
  prog : List MicroOp
  /-- `SEQ.pc`, the index of the next micro-operation (R27). -/
  pc : Nat
  /-- `SEQ.wait`, the ticks left in a WAIT that has begun (R29). -/
  wait : Nat
  /-- `PAD.dir` (R37). -/
  padDir : PerLine PadDir
  /-- `PAD.latch` (R37). -/
  padLatch : PerLine PadLatch
  /-- `EXT_LOW` at this moment, an input from the bus environment (R38). DESIGN CHOICE: how it changes (log 4). -/
  extLow : PerLine Bool
  /-- The level of the reset input `rst` (R230). -/
  rst : Bool
  /-- `reg_rdata`, what the last host read returned (R53; 92_eei_decisions.md D1). DESIGN CHOICE: its reset value, 0x0000
  (log 9). -/
  rdata : Word
  /-- The host's accesses still to be made, in the order it issues them (R60). DESIGN CHOICE: a list (log 9). -/
  host : List HostOp
  /-- The turns still to come, an input: the interleaving (R60) and the environment (R38). DESIGN CHOICE (log 3). -/
  turns : List Turn
  /-- The pin trace, oldest entry first (R117): an observer's record, no part of the block. DESIGN CHOICE (log 8). -/
  trace : List PinEvent
  /-- Ticks of the clock passed (R16, R250): an observer's count, no part of the block (R212). DESIGN CHOICE (log 8). -/
  ticks : Nat
  /-- The commands accepted since reset, oldest first (R43): an observer's record, no part of the block. DESIGN CHOICE
  (log 10). -/
  accepted : List Instr
  /-- The model's own counter: which moment a free value is drawn for. DESIGN CHOICE (log 7). -/
  moment : Nat
  /-- The build's parameters (R7 to R10, R18); no step writes them. DESIGN CHOICE: held beside the state (log 2). -/
  params : Params
  deriving DecidableEq, Repr

/-- Why the machine stops. The spec gives the block no stop of its own ("No item is `stuck`",
93_implementation_defined.md), so the one fault is about states outside R27. -/
inductive Fault where
  /-- Raised by a sequencer turn when `SEQ.pc` is not below `len(SEQ.prog)` though a program is loaded: R27 says that
  this never holds, so the spec gives such a state no next micro-operation. Safe: no run from reset reaches it. -/
  | seqIndexOutOfRange
  deriving DecidableEq, Repr

/-- Why a step is refused. No instruction of the table is refused. -/
inductive Refusal where
  /-- Raised by an arm of `exec` whose instruction has no meaning yet; no arm does so. Safe. -/
  | notModelled (mnemonic : String)
  deriving DecidableEq, Repr

/-- The state after reset is asserted and before the first sequencer step (R42). The pads are as power-up left them,
which is unspecified (R42), and the environment holds what it holds (R38). -/
def State.reset : State where
  line := ⟨.released, .released⟩
  addr := Config.pAddr
  nack := false
  errIllegal := false
  errBusy := false
  txnAddrNack := false
  txnDataNack := false
  prog := initSeq
  pc := 0
  wait := 0
  padDir := ⟨Config.freePadDir .scl, Config.freePadDir .sda⟩
  padLatch := ⟨Config.freePadLatch .scl, Config.freePadLatch .sda⟩
  extLow := ⟨Config.freeExtLow 0 .scl, Config.freeExtLow 0 .sda⟩
  rst := false
  rdata := 0x0000#16
  host := []
  turns := []
  trace := []
  ticks := 0
  accepted := []
  moment := 0
  params := Config.params

end Sys2Proof.Machine
end

