-- ==== Sys2Proof/Machine/Ops.lean ====
section
/-! DEFINITION. The named operations every meaning is built from: one value of a pair of lines, the pin port and the
wire (R108 to R112), raising an error and clearing it (R200, R207), accepting a command (R55) and reset (R230). -/

namespace Sys2Proof

/-- The value of one line. -/
def PerLine.get {α : Type} (p : PerLine α) : Line → α
  | .scl => p.scl
  | .sda => p.sda

/-- The pair with one line's value replaced. -/
def PerLine.set {α : Type} (p : PerLine α) (l : Line) (v : α) : PerLine α :=
  match l with
  | .scl => { p with scl := v }
  | .sda => { p with sda := v }

/-- `P_DELAY(s)` (R8). -/
def Delays.at (d : Delays) : Site → Nat
  | .start1 => d.start1
  | .start2 => d.start2
  | .stop1 => d.stop1
  | .stop2 => d.stop2
  | .rstart1 => d.rstart1
  | .rstart2 => d.rstart2
  | .rstart3 => d.rstart3
  | .bitSetup => d.bitSetup
  | .bitHigh => d.bitHigh
  | .bitLow => d.bitLow
  | .ackSetup => d.ackSetup

/-- The platform's identifier of a line's pin (R10, R108). -/
def Params.pin (p : Params) : Line → Nat
  | .scl => p.pPinScl
  | .sda => p.pPinSda

namespace Machine

/-- `BUSY = (len(SEQ.prog) > 0)`; it is not stored (R27). -/
def State.busy (s : State) : Bool := !s.prog.isEmpty

/-! ### Single updates -/

/-- `LINE[l] <- v` (R22). -/
def State.setLine (s : State) (l : Line) (v : LineState) : State := { s with line := s.line.set l v }

/-- `PAD.dir[l] <- d` (R109). -/
def State.setPadDir (s : State) (l : Line) (d : PadDir) : State := { s with padDir := s.padDir.set l d }

/-- `PAD.latch[l] <- LOW`; the direction stays (R110). -/
def State.clearPadLatch (s : State) (l : Line) : State := { s with padLatch := s.padLatch.set l .low }

/-- The pin trace grows by one entry (R117). -/
def State.logPin (s : State) (a : PinAct) (rsp : Option Level) : State :=
  { s with trace := s.trace ++ [⟨a, rsp⟩] }

/-- Ticks pass (R16). -/
def State.passTicks (s : State) (n : Nat) : State := { s with ticks := s.ticks + n }

/-! ### The wire and the pin port -/

/-- The wire model: the pad, every other device and the external pull-up (R112). A pad that drives high against a
device gives a free level. -/
def State.wire (s : State) (l : Line) : Level :=
  if s.padDir.get l = .output ∧ s.padLatch.get l = .high ∧ s.extLow.get l = true then
    Config.freeContention s.moment l
  else if (s.padDir.get l = .output ∧ s.padLatch.get l = .low) ∨ s.extLow.get l = true then false
  else true

/-- What READ_LEVEL(l) returns: the wire's level, and on an OUTPUT pad a free level (R111). -/
def State.readLevel (s : State) (l : Line) : Level :=
  if s.padDir.get l = .output then Config.freeReadLevel s.moment l else s.wire l

/-- `GpioSetDir(l, mode)`: one SET_DIR request, obeyed at once (R109, R113). -/
def State.gpioSetDir (s : State) (l : Line) (mode : PadDir) : State :=
  (s.setPadDir l mode).logPin (.setDir l mode) none

/-- `GpioClearLow(l)`: one CLEAR_LOW request (R110, R113). -/
def State.gpioClearLow (s : State) (l : Line) : State :=
  (s.clearPadLatch l).logPin (.clearLow l) none

/-- `GpioReadLevel(l)`: one READ_LEVEL request, answered in the same step (R108, R111). -/
def State.gpioReadLevel (s : State) (l : Line) : Level × State :=
  (s.readLevel l, s.logPin (.readLevel l) (some (s.readLevel l)))

/-- The signals of the pin port for one entry of the trace (R108). -/
structure PinSignals where
  /-- `gpio_req_valid`. -/
  valid : Bool
  /-- `gpio_req_kind[1:0]`: 00 SET_DIR, 01 CLEAR_LOW, 10 READ_LEVEL; 11 is never issued. -/
  kind : BitVec 2
  /-- `gpio_req_line`: 0 SCL, 1 SDA. -/
  line : Bool
  /-- `gpio_req_mode`: 1 OUTPUT, 0 INPUT; it means something in a SET_DIR only. -/
  mode : Bool
  deriving DecidableEq, Repr

/-- `gpio_req_line` of a line (R108). -/
def lineBit : Line → Bool
  | .scl => false
  | .sda => true

/-- `gpio_req_mode` of a direction (R108). -/
def modeBit : PadDir → Bool
  | .input => false
  | .output => true

/-- The request signals a pin action shows at a moment (R108). DESIGN CHOICE (log 22): where R108 says nothing of a
signal the model fixes nothing either. The mode of a CLEAR_LOW and of a READ_LEVEL is a free level of the moment, and a
delay, which makes no request, shows no signals. -/
def PinAct.signals (moment : Nat) : PinAct → Option PinSignals
  | .setDir l m => some ⟨true, 0b00#2, lineBit l, modeBit m⟩
  | .clearLow l => some ⟨true, 0b01#2, lineBit l, Config.freeReqMode moment⟩
  | .readLevel l => some ⟨true, 0b10#2, lineBit l, Config.freeReqMode moment⟩
  | .delay _ _ => none

/-- The pin field of a request (R108); a delay has none. -/
def PinAct.pin (p : Params) : PinAct → Option Nat
  | .setDir l _ => some (p.pin l)
  | .clearLow l => some (p.pin l)
  | .readLevel l => some (p.pin l)
  | .delay _ _ => none

/-! ### Errors: the block's exceptions -/

/-- `raise E` (R200): set E's sticky bit, drop the word that caused it and change nothing else. This is the whole of
the block's trap mechanism: no state is saved and there is no vector (R206). -/
def raiseError (e : ErrorKind) (s : State) : State :=
  match e with
  | .illegal => { s with errIllegal := true }
  | .busy => { s with errBusy := true }

/-- The one way back from an error beside reset: a STATUS write clears the sticky bits whose positions hold 1 in the
written value, and changes nothing else (R56, R207). -/
def ackErrors (v : Word) (s : State) : State :=
  { s with
    errIllegal := s.errIllegal && !v.getLsbD 2
    errBusy := s.errBusy && !v.getLsbD 3 }

/-! ### Accepting a command -/

/-- An accepted command: `SEQ.prog <- expand(w)`, `SEQ.pc <- 0` (R55); the observer notes the command (R43). -/
def State.load (s : State) (i : Instr) (prog : List MicroOp) : State :=
  { s with prog := prog, pc := 0, accepted := s.accepted ++ [i] }

/-- A CMD write of a legal word with this expansion: while BUSY it raises ERR_BUSY (R202), else the command starts
(R55). -/
def acceptCommand (i : Instr) (prog : List MicroOp) (s : State) : Host.Outcome State Fault Refusal :=
  if s.busy then .next (raiseError .busy s) else .next (s.load i prog)

/-! ### Reset -/

/-- A tick in which `rst` is 1: every state element of the block takes its reset value (R230, R42). No pin request is
made, so the pads stay as they are (R37). DEDUCED: the pads (log 5). -/
def applyReset (s : State) : State :=
  { s with
    line := ⟨.released, .released⟩
    addr := s.params.pAddr
    nack := false
    errIllegal := false
    errBusy := false
    txnAddrNack := false
    txnDataNack := false
    prog := initSeq
    pc := 0
    wait := 0
    accepted := [] }

end Machine

end Sys2Proof
end

