-- ==== Sys2Proof/Machine/Operands.lean ====
section
/-! DEFINITION. The operand forms: the immediate byte as it goes out on the wire (R52, R71, R107), the address byte the
block puts together itself (R171) and where a sample of a transaction goes (R170). -/

namespace Sys2Proof.Machine

/-- `PUT_BIT(b)`: a 1 is sent by releasing SDA, a 0 by driving it low (R107). -/
def putBit (b : Bool) : MicroOp := if b then .release .sda else .driveLow .sda

/-- The bit a byte sends as its k-th data bit: `v[7-k]`, most significant bit first (R52, R150). -/
def wireBit (v : Byte) (k : Nat) : Bool := v.getLsbD (7 - k)

/-- `AddrByte(a) = {a, 0b0}`: the address shifted left by one, the direction bit 0 (R171). -/
def addrByte (a : Addr7) : Byte := a ++ 0b0#1

/-- `(DA, DD)`: where the address sample and the data sample of WRDEV go (R170, R172). -/
def sampleDests (report : Bool) : Dest × Dest :=
  if report then (.txnAddr, .txnData) else (.discard, .discard)

end Sys2Proof.Machine
end

