-- ==== Sys2Proof/Machine/Flags.lean ====
section
/-! DEFINITION. The flags: the STATUS word (R32, R53) and where an ACK sample is written (R106). -/

namespace Sys2Proof.Machine

/-- `bit(LINE[l] = RELEASED)` (R32, R53). -/
def State.lineRel (s : State) (l : Line) : Bool := (s.line.get l).level

/-- STATUS as it reads: `{0x00, SDA_REL, SCL_REL, TXN_DATA_NACK, TXN_ADDR_NACK, ERR_BUSY, ERR_ILLEGAL, NACK, BUSY}`
(R32, R53). -/
def State.status (s : State) : Word :=
  0x00#8 ++ BitVec.ofBool (s.lineRel .sda) ++ BitVec.ofBool (s.lineRel .scl) ++ BitVec.ofBool s.txnDataNack ++
    BitVec.ofBool s.txnAddrNack ++ BitVec.ofBool s.errBusy ++ BitVec.ofBool s.errIllegal ++ BitVec.ofBool s.nack ++
    BitVec.ofBool s.busy

/-- The sample `lvl` goes where `d` says; 1 is NACK, 0 is ACK (R106). -/
def State.recordSample (s : State) (d : Dest) (lvl : Level) : State :=
  match d with
  | .nackField => { s with nack := lvl }
  | .txnAddr => { s with txnAddrNack := lvl }
  | .txnData => { s with txnDataNack := lvl }
  | .discard => s

end Sys2Proof.Machine
end

