-- ==== Sys2Proof/Machine/Sequencer.lean ====
section
/-! DEFINITION. The sequencer: `Perform` (R101 to R106), one step of a whole micro-operation (R28), one tick of the
clock (R29, R105, R250), and what a turn does while `rst` is 1 (R230). -/

namespace Sys2Proof.Machine

/-- RELEASE(l) (R101). -/
def performRelease (l : Line) (s : State) : State := (s.setLine l .released).gpioSetDir l .input

/-- DRIVE_LOW(l) (R102). -/
def performDriveLow (l : Line) (s : State) : State := (s.setLine l .drivenLow).gpioSetDir l .output

/-- CLEAR_LATCH(l) (R103). -/
def performClearLatch (l : Line) (s : State) : State := s.gpioClearLow l

/-- The end of a WAIT(site): no pin request and no change of the block's state but the counter, which is back at 0;
the pin trace notes the site with its `P_DELAY` (R105, R117). -/
def performWait (site : Site) (s : State) : State :=
  { s with wait := 0 }.logPin (.delay site (s.params.pDelay.at site)) none

/-- SAMPLE_ACK(d): one immediate read of SDA, recorded where `d` says (R106). -/
def performSampleAck (d : Dest) (s : State) : State :=
  (s.gpioReadLevel .sda).2.recordSample d (s.gpioReadLevel .sda).1

/-- `Perform(op)` (R100). -/
def perform (op : MicroOp) (s : State) : State :=
  match op with
  | .release l => performRelease l s
  | .driveLow l => performDriveLow l s
  | .clearLatch l => performClearLatch l s
  | .wait site => performWait site s
  | .sampleAck d => performSampleAck d s

/-- The ticks a micro-operation takes (R250): `P_DELAY(s)` for WAIT(s), 1 for every other. -/
def MicroOp.ticks (p : Params) : MicroOp → Nat
  | .wait site => p.pDelay.at site
  | .release _ => 1
  | .driveLow _ => 1
  | .clearLatch _ => 1
  | .sampleAck _ => 1

/-- The ticks a list of micro-operations takes (R250). -/
def ticksOf (p : Params) (prog : List MicroOp) : Nat := (prog.map (MicroOp.ticks p)).sum

/-- The ticks still to pass before a micro-operation is over: what is left of a WAIT that has begun, else all of it
(R29, R105). -/
def State.ticksLeft (s : State) (op : MicroOp) : Nat :=
  match op with
  | .wait site => if s.wait = 0 then s.params.pDelay.at site else s.wait
  | .release _ => 1
  | .driveLow _ => 1
  | .clearLatch _ => 1
  | .sampleAck _ => 1

/-- The index moves on, or the expansion is over and BUSY becomes 0 (R28). -/
def State.advance (s : State) : State :=
  if s.pc + 1 = s.prog.length then { s with prog := [], pc := 0 } else { s with pc := s.pc + 1 }

/-- The rest of a micro-operation is performed, its ticks pass and the index moves on (R28, R250). -/
def State.finishOp (s : State) (op : MicroOp) : State :=
  ((perform op s).passTicks (s.ticksLeft op)).advance

/-- `SeqStep()`: exactly one micro-operation (R28). -/
def seqStep (s : State) : Host.Outcome State Fault Refusal :=
  match s.prog[s.pc]? with
  | none => .fault .seqIndexOutOfRange
  | some op => .next (s.finishOp op)

/-- A WAIT goes on: the counter, set to `P_DELAY` when the WAIT began, is one less after this tick (R29, R105). -/
def State.waitTick (s : State) (op : MicroOp) : State :=
  { s with wait := s.ticksLeft op - 1 }.passTicks 1

/-- One tick of the sequencer: a WAIT with more than one tick left goes on, anything else is over within the tick; a
WAIT of `P_DELAY = 0` is over with no tick passing (R105, R250). -/
def clkStep (s : State) : Host.Outcome State Fault Refusal :=
  match s.prog[s.pc]? with
  | none => .fault .seqIndexOutOfRange
  | some op => if s.ticksLeft op ≤ 1 then .next (s.finishOp op) else .next (s.waitTick op)

/-- The sequencer's turn: nothing while `rst` is 1 but the reset values (R230), and no step while BUSY is 0 (R28). -/
def seqTurn (s : State) : Host.Outcome State Fault Refusal :=
  if s.rst then .next (applyReset s) else if s.busy then seqStep s else .next s

/-- The clock's turn: as the sequencer's, tick by tick; a tick passes also while the block is idle (R16, R216). -/
def clkTurn (s : State) : Host.Outcome State Fault Refusal :=
  if s.rst then .next ((applyReset s).passTicks 1) else if s.busy then clkStep s else .next (s.passTicks 1)

/-- The running expansion taken to its end at one go, nothing else moving meanwhile (R28, R251). -/
def State.settle (s : State) : State :=
  { (s.prog.drop s.pc).foldl (fun t op => (perform op t).passTicks (t.ticksLeft op)) s with prog := [], pc := 0 }

end Sys2Proof.Machine
end

