-- ==== Sys2Proof/Machine/Conditions.lean ====
section
/-! DEFINITION. The condition commands START, STOP and RSTART (41_conditions.md). The step lists are normative, not the
wire effects the source claims for them (90_conflicts.md C2). -/

namespace Sys2Proof.Machine

/-- START_SEQ (R130). -/
def startSeq : List MicroOp :=
  [.driveLow .sda, .wait .start1, .driveLow .scl, .wait .start2]

/-- STOP_SEQ (R133). -/
def stopSeq : List MicroOp :=
  [.release .scl, .wait .stop1, .release .sda, .wait .stop2]

/-- RSTART_SEQ (R136). -/
def rstartSeq : List MicroOp :=
  [.release .scl, .wait .rstart1, .driveLow .sda, .wait .rstart2, .driveLow .scl, .wait .rstart3]

/-- START (R130, R55). -/
def execStart (s : State) : Host.Outcome State Fault Refusal := acceptCommand .start startSeq s

/-- STOP (R133, R55). -/
def execStop (s : State) : Host.Outcome State Fault Refusal := acceptCommand .stop stopSeq s

/-- RSTART (R136, R55). -/
def execRstart (s : State) : Host.Outcome State Fault Refusal := acceptCommand .rstart rstartSeq s

end Sys2Proof.Machine
end

