-- ==== Sys2Proof/Machine/ByteWrite.lean ====
section
/-! DEFINITION. The byte write and its ACK sample, WRB (42_byte_write.md). -/

namespace Sys2Proof.Machine

/-- The six micro-operations of one data bit: set DATA while CLOCK is low, raise CLOCK, lower CLOCK, each followed by
its delay (R150). -/
def bitSeq (b : Bool) : List MicroOp :=
  [putBit b, .wait .bitSetup, .release .scl, .wait .bitHigh, .driveLow .scl, .wait .bitLow]

/-- The five micro-operations of the ACK cycle: one delay, and none after raising CLOCK (R150, R153). For an implementer
(R247, place 1): the ninth clock's high time, from 50 to 52 of BYTE_SEQ, has no WAIT, so no delay parameter can lengthen
it. -/
def ackSeq (d : Dest) : List MicroOp :=
  [.release .sda, .wait .ackSetup, .release .scl, .sampleAck d, .driveLow .scl]

/-- BYTE_SEQ(v, d): the eight bits, most significant first, then the ACK cycle (R150). For an implementer (R247, place 3):
the last micro-operation is DRIVE_LOW(SCL) with no WAIT after it, so SCL's low time after a host's WRB is the host's
latency up to its next command. -/
def byteSeq (v : Byte) (d : Dest) : List MicroOp :=
  ([0, 1, 2, 3, 4, 5, 6, 7].map (fun k => bitSeq (wireBit v k))).flatten ++ ackSeq d

/-- `WRB v` (R150, R55): the sample goes to NACK (R151). -/
def execWrb (v : Byte) (s : State) : Host.Outcome State Fault Refusal :=
  acceptCommand (.wrb v) (byteSeq v .nackField) s

end Sys2Proof.Machine
end

