-- ==== Sys2Proof/Machine/Transaction.lean ====
section
/-! DEFINITION. The one-byte transaction, WRDEV (43_transaction.md), and `expand`, the expansion each command selects
(R72). -/

namespace Sys2Proof.Machine

/-- TXN_SEQ(d): START_SEQ, the address byte, the data byte, STOP_SEQ (R170). For an implementer (R247, place 2): between
the data byte's last DRIVE_LOW(SCL), at 109, and STOP's RELEASE(SCL), at 110, stands no WAIT, so SCL's low time there is
the sequencer's alone and no delay parameter can lengthen it. -/
def txnSeq (report : Bool) (addr : Addr7) (d : Byte) : List MicroOp :=
  startSeq ++ byteSeq (addrByte addr) (sampleDests report).1 ++ byteSeq d (sampleDests report).2 ++ stopSeq

/-- `WRDEV d` (R170, R55): the address is read from ADDR when the command is expanded. -/
def execWrdev (d : Byte) (s : State) : Host.Outcome State Fault Refusal :=
  acceptCommand (.wrdev d) (txnSeq s.params.pReportTxnNack s.addr d) s

/-- `expand(w)` of the word of a command (R72). -/
def expand (report : Bool) (addr : Addr7) : Instr → List MicroOp
  | .start => startSeq
  | .stop => stopSeq
  | .rstart => rstartSeq
  | .wrb v => byteSeq v .nackField
  | .wrdev d => txnSeq report addr d

end Sys2Proof.Machine
end

