-- ==== Sys2Proof/Machine/Dispatch.lean ====
section
/-! DEFINITION. One arm for each command: the meaning of a CMD write of its word (R55, R72). -/

namespace Sys2Proof.Machine

def exec (i : Instr) (s : State) : Host.Outcome State Fault Refusal :=
  match i with
  | .start => Sys2Proof.Machine.execStart s
  | .stop => Sys2Proof.Machine.execStop s
  | .rstart => Sys2Proof.Machine.execRstart s
  | .wrb v => Sys2Proof.Machine.execWrb v s
  | .wrdev d => Sys2Proof.Machine.execWrdev d s

end Sys2Proof.Machine
end

