-- ==== Sys2Proof/Machine/HostPort.lean ====
section
/-! DEFINITION. The host register port: reads and writes of the four registers (20_memory.md), and the host's turn
(R12, R60). -/

namespace Sys2Proof.Machine

/-- `RegRead(off)`: no side effect (R53); while `rst` is 1 every read returns 0x0000 (R230). -/
def regRead (off : Offset) (s : State) : Word :=
  if s.rst then 0x0000#16
  else if off = 0#2 then 0x0000#16
  else if off = 1#2 then s.status
  else if off = 2#2 then s.addr.setWidth 16
  else 0x0000#16

/-- A write to CMD (R55): BUSY is tested first (R204), then the word is decoded, and a legal word is executed. -/
def writeCmd (w : Word) (s : State) : Host.Outcome State Fault Refusal :=
  if s.busy then .next (raiseError .busy s)
  else
    match decodeCmd w with
    | .error _ => .next (raiseError .illegal s)
    | .ok i => exec i s

/-- `RegWrite(off, v)` (R54): CMD, STATUS, and two offsets that ignore the write; while `rst` is 1 every write is
ignored (R230). -/
def regWrite (off : Offset) (v : Word) (s : State) : Host.Outcome State Fault Refusal :=
  if s.rst then .next s
  else if off = 0#2 then writeCmd v s
  else if off = 1#2 then .next (ackErrors v s)
  else .next s

/-- The host's next access, in the order it issues them (R60). WAITIDLE reads STATUS and stays as long as BUSY is 1
(R78; DESIGN CHOICE: one read a turn, log 16). With nothing pending the host does nothing. -/
def hostTurn (s : State) : Host.Outcome State Fault Refusal :=
  match s.host with
  | [] => .next s
  | .read off :: rest => .next { s with host := rest, rdata := regRead off s }
  | .write off v :: rest => regWrite off v { s with host := rest }
  | .waitIdle :: rest =>
    .next { s with rdata := regRead 1#2 s, host := if (regRead 1#2 s).getLsbD 0 then s.host else rest }

end Sys2Proof.Machine
end

