-- ==== Sys2Proof/Machine/Turn.lean ====
section
/-! DEFINITION. What a turn of each agent does (R12), which agent moves when no turn is written down, and what
`withFetchWord` sets. -/

namespace Sys2Proof.Machine

/-- The reset input takes a level; while it is 1 the reset values are taken (R230). DEDUCED: between any two turns (log
17). -/
def resetTurn (b : Bool) (s : State) : State :=
  if b then applyReset { s with rst := true } else { s with rst := false }

/-- One turn (R12, R60). -/
def takeTurn (t : Turn) (s : State) : Host.Outcome State Fault Refusal :=
  match t with
  | .host => hostTurn s
  | .seq => seqTurn s
  | .clk => clkTurn s
  | .env e => .next { s with extLow := e }
  | .reset b => .next (resetTurn b s)

/-- `EXT_LOW` drawn anew: no law relates its values at different moments (R38). -/
def State.drawEnv (s : State) : State :=
  { s with extLow := ⟨Config.freeExtLow s.moment .scl, Config.freeExtLow s.moment .sda⟩ }

/-- Who moves when no turn is written down: the sequencer as long as it has micro-operations left (R251: it steps every
tick), else the host. DESIGN CHOICE (log 3). -/
def State.dueAgent (s : State) : Turn := if s.busy then .seq else .host

/-- A step begins: the moment moves on and the turn is used up. -/
def State.nextMoment (s : State) : State := { s with moment := s.moment + 1, turns := s.turns.tail }

/-- One step of the machine: the next turn of the list of turns, or, when none is left, a free environment and then
the agent that is due. -/
def stepState (s : State) : Host.Outcome State Fault Refusal :=
  match s.turns with
  | t :: _ => takeTurn t s.nextMoment
  | [] => takeTurn s.dueAgent s.nextMoment.drawEnv

/-- The state in which the very next step is the host's CMD write of the word `w`: `rst` is 0, whatever was running
(after reset: INIT) has come to its end, the write stands first among the host's accesses and the host has the next
turn. DESIGN CHOICE (log 13). -/
def State.withCmdWrite (s : State) (w : Word) : State :=
  { s.settle with rst := false, host := .write 0#2 w :: s.host, turns := .host :: s.turns }

end Sys2Proof.Machine
end

