-- ==== Sys2Proof/Machine/Step.lean ====
section
/-! DEFINITION. One step of the machine, and where its next instruction comes from. -/

namespace Sys2Proof.Machine

/-- One step. -/
def step (s : State) : Host.Outcome State Fault Refusal := stepState s

/-- `s` with the command word `w` (of `nbits` bits) as the CMD write that the next step makes: the block fetches no
instructions, a command reaches it only as a word the host writes to CMD (R51). -/
def State.withFetchWord (s : State) (nbits w : Nat) : State :=
  s.withCmdWrite (BitVec.ofNat 16 (w % 2 ^ nbits))

end Sys2Proof.Machine
end

