-- ==== Sys2Proof/Machine/Assembler.lean ====
section
/-! DEFINITION. Host programs: the statements of R77 and the pseudo-instructions of R78 as host accesses, and the text
they are written in. -/

namespace Sys2Proof.Machine

/-- The one host access of a command statement (R77). -/
def cmdAccess (i : Instr) : HostOp := .write 0#2 (encode i)

/-- The host accesses a statement stands for (R77, R78). Its operands are in range (`Stmt.wf`). -/
def stmtAccesses : Stmt → List HostOp
  | .start => [cmdAccess .start]
  | .stop => [cmdAccess .stop]
  | .rstart => [cmdAccess .rstart]
  | .wrb n => [cmdAccess (.wrb (BitVec.ofNat 8 n))]
  | .wrdev n => [cmdAccess (.wrdev (BitVec.ofNat 8 n))]
  | .rd off => [.read (BitVec.ofNat 2 off)]
  | .wr off v => [.write (BitVec.ofNat 2 off) (BitVec.ofNat 16 v)]
  | .waitidle => [.waitIdle]
  | .clrerr => [.write 1#2 0x000C#16]
  | .wrbw n => [cmdAccess (.wrb (BitVec.ofNat 8 n)), .waitIdle]
  | .send a d =>
    [cmdAccess .start, .waitIdle, cmdAccess (.wrb (BitVec.ofNat 8 a)), .waitIdle,
      cmdAccess (.wrb (BitVec.ofNat 8 d)), .waitIdle, cmdAccess .stop, .waitIdle]

/-- A statement assembles, or an operand is out of range and the assembler reports an error (R77). -/
def assembleStmt (st : Stmt) : Option (List HostOp) := if st.wf then some (stmtAccesses st) else none

/-- A program assembles statement by statement (R77). -/
def assemble : List Stmt → Option (List HostOp)
  | [] => some []
  | st :: rest => do
    let a ← assembleStmt st
    let b ← assemble rest
    return a ++ b

/-! ### The text

DESIGN CHOICE: what R77 leaves open of it (log 19). -/

/-- A digit's value, in either case. -/
def digitValue (c : Char) : Option Nat :=
  let n := c.toNat
  if 48 ≤ n ∧ n ≤ 57 then some (n - 48)
  else if 97 ≤ n ∧ n ≤ 102 then some (n - 87)
  else if 65 ≤ n ∧ n ≤ 70 then some (n - 55)
  else none

/-- Digits of one base, after the value read so far. -/
def digitsValue (base : Nat) : List Char → Nat → Option Nat
  | [], acc => some acc
  | c :: cs, acc =>
    match digitValue c with
    | some d => if d < base then digitsValue base cs (acc * base + d) else none
    | none => none

/-- A number written in hexadecimal (`0xAB`), binary (`0b10101011`) or decimal (`171`) (R77). -/
def numberValue : List Char → Option Nat
  | [] => none
  | '0' :: 'x' :: c :: cs => digitsValue 16 (c :: cs) 0
  | '0' :: 'b' :: c :: cs => digitsValue 2 (c :: cs) 0
  | c :: cs => digitsValue 10 (c :: cs) 0

/-- A letter in upper case; mnemonics are case-insensitive (R77). -/
def upperChar (c : Char) : Char := if 97 ≤ c.toNat ∧ c.toNat ≤ 122 then Char.ofNat (c.toNat - 32) else c

/-- A token read so far, if there is one. -/
def flushToken (acc : List Char) : List (List Char) := if acc.isEmpty then [] else [acc]

/-- The tokens of a line: words, and commas on their own; `;` begins a comment that runs to the line's end (R77). -/
def tokens : List Char → List Char → List (List Char)
  | [], acc => flushToken acc
  | c :: cs, acc =>
    if c = ';' then flushToken acc
    else if c = ' ' ∨ c = '\t' ∨ c = '\r' then flushToken acc ++ tokens cs []
    else if c = ',' then flushToken acc ++ [','] :: tokens cs []
    else tokens cs (acc ++ [c])

/-- A statement of no operand, by its mnemonic in upper case (R77, R78). -/
def stmt0 (m : List Char) : Option Stmt :=
  if m = ['S', 'T', 'A', 'R', 'T'] then some .start
  else if m = ['S', 'T', 'O', 'P'] then some .stop
  else if m = ['R', 'S', 'T', 'A', 'R', 'T'] then some .rstart
  else if m = ['W', 'A', 'I', 'T', 'I', 'D', 'L', 'E'] then some .waitidle
  else if m = ['C', 'L', 'R', 'E', 'R', 'R'] then some .clrerr
  else none

/-- A statement of one operand (R77, R78). -/
def stmt1 (m : List Char) (a : Nat) : Option Stmt :=
  if m = ['W', 'R', 'B'] then some (.wrb a)
  else if m = ['W', 'R', 'D', 'E', 'V'] then some (.wrdev a)
  else if m = ['R', 'D'] then some (.rd a)
  else if m = ['W', 'R', 'B', 'W'] then some (.wrbw a)
  else none

/-- A statement of two operands (R77, R78). -/
def stmt2 (m : List Char) (a b : Nat) : Option Stmt :=
  if m = ['W', 'R'] then some (.wr a b)
  else if m = ['S', 'E', 'N', 'D'] then some (.send a b)
  else none

/-- One line: no statement (a blank line or a comment), one statement, or an error (R77: one statement per line). -/
def parseLine (line : List Char) : Option (List Stmt) :=
  match tokens line [] with
  | [] => some []
  | [m] => (stmt0 (m.map upperChar)).map (fun st => [st])
  | [m, a] => do
    let x ← numberValue a
    let st ← stmt1 (m.map upperChar) x
    return [st]
  | [m, a, [','], b] => do
    let x ← numberValue a
    let y ← numberValue b
    let st ← stmt2 (m.map upperChar) x y
    return [st]
  | _ => none

/-- The lines of a text. -/
def linesOf : List Char → List Char → List (List Char)
  | [], acc => [acc]
  | c :: cs, acc => if c = '\n' then acc :: linesOf cs [] else linesOf cs (acc ++ [c])

/-- The statements of a program's lines. -/
def parseLines : List (List Char) → Option (List Stmt)
  | [] => some []
  | l :: ls => do
    let a ← parseLine l
    let b ← parseLines ls
    return a ++ b

/-- A host program from its text to its accesses (R77, R78). -/
def assembleText (text : List Char) : Option (List HostOp) := do
  let sts ← parseLines (linesOf text [])
  assemble sts

end Sys2Proof.Machine
end

