-- ==== Sys2Proof/Machine/Bus.lean ====
section
/-! DEFINITION. What the wires show: the bus events between two states (R116), the bits presented at SCL's rising edges
and SCL's clock pulses. -/

namespace Sys2Proof.Machine

/-- START condition: SDA falls while SCL is high before and after (R116). -/
def startCondition (s t : State) : Bool := s.wire .sda && !t.wire .sda && s.wire .scl && t.wire .scl

/-- STOP condition: SDA rises while SCL is high before and after (R116). -/
def stopCondition (s t : State) : Bool := !s.wire .sda && t.wire .sda && s.wire .scl && t.wire .scl

/-- SCL rising edge (R116). -/
def sclRising (s t : State) : Bool := !s.wire .scl && t.wire .scl

/-- SCL falling edge. -/
def sclFalling (s t : State) : Bool := s.wire .scl && !t.wire .scl

/-- The bit presented between two states: SDA's level at an SCL rising edge (R116). DESIGN CHOICE (log 23): between two
states that differ in the environment both wires may have changed, which no micro-operation does; the bit is then SDA's
level after the edge. -/
def bitPresented (s t : State) : Option Level := if sclRising s t then some (t.wire .sda) else none

/-- The bits a list of micro-operations presents, in order, the environment as it stands (R116). -/
def bitsPresented : List MicroOp → State → List Level
  | [], _ => []
  | op :: ops, s => (bitPresented s (perform op s)).toList ++ bitsPresented ops (perform op s)

/-- SCL's clock pulses in a list of micro-operations entered with SCL as `scl`: a RELEASE(SCL) issued while SCL is
DRIVEN_LOW (it opens a pulse), followed later by a DRIVE_LOW(SCL) (it closes one) (R116). -/
def sclPulses : List MicroOp → LineState → Bool → Nat
  | [], _, _ => 0
  | .release .scl :: ops, scl, opened => sclPulses ops .released (opened || decide (scl = .drivenLow))
  | .driveLow .scl :: ops, _, opened => (if opened then 1 else 0) + sclPulses ops .drivenLow false
  | .release .sda :: ops, scl, opened => sclPulses ops scl opened
  | .driveLow .sda :: ops, scl, opened => sclPulses ops scl opened
  | .clearLatch _ :: ops, scl, opened => sclPulses ops scl opened
  | .wait _ :: ops, scl, opened => sclPulses ops scl opened
  | .sampleAck _ :: ops, scl, opened => sclPulses ops scl opened

/-- The bus is quiet: no device holds a wire low (41_conditions.md, "with a quiet bus"). -/
def State.quietBus (s : State) : Bool := !s.extLow.scl && !s.extLow.sda

/-- Bus idle: both wires high, both lines RELEASED and no device holding a wire low (00_scope.md, glossary). -/
def State.busIdle (s : State) : Bool :=
  s.lineRel .scl && s.lineRel .sda && s.wire .scl && s.wire .sda && s.quietBus

/-- What a micro-operation shows at the pin port (R101 to R108, R117). -/
def MicroOp.act (p : Params) : MicroOp → PinAct
  | .release l => .setDir l .input
  | .driveLow l => .setDir l .output
  | .clearLatch l => .clearLow l
  | .wait site => .delay site (p.pDelay.at site)
  | .sampleAck _ => .readLevel .sda

end Sys2Proof.Machine
end

