-- ==== Sys2Proof/Machine/Protocol.lean ====
section
/-! DEFINITION. The source's per-transaction state machine (R43). The block does not store it and no command checks it:
it is a reading of the commands accepted since reset and of SEQ. -/

namespace Sys2Proof.Machine

/-- "IDLE → STARTED → (BIT×8 → ACK_SAMPLE)×N_bytes → STOPPED → IDLE" (R43). -/
inductive ProtocolState where
  | idle
  | started
  | bit (k : Nat)
  | ackSample
  | stopped
  deriving DecidableEq, Repr

/-- The reading after a WRB has completed, from the reading before it (R43): outside a transaction, before the first
START or after a STOP, it stays IDLE; inside one it is ACK_SAMPLE. DEDUCED: inside a transaction (log 15). -/
def protocolAfterByte : ProtocolState → ProtocolState
  | .idle => .idle
  | .started => .ackSample
  | .bit _ => .ackSample
  | .ackSample => .ackSample
  | .stopped => .ackSample

/-- The reading between commands, from the commands completed since reset, newest first (R43). -/
def protocolAfter : List Instr → ProtocolState
  | [] => .idle
  | .start :: _ => .started
  | .rstart :: _ => .started
  | .wrb _ :: before => protocolAfterByte (protocolAfter before)
  | .stop :: _ => .idle
  | .wrdev _ :: _ => .idle

/-- The reading inside a byte: BIT during micro-operations 0 to 47, ACK_SAMPLE during 48 to 52 (R43). -/
def protocolInByte (k : Nat) : ProtocolState := if k < 48 then .bit (k / 6) else .ackSample

/-- The reading while a command runs, `pc` being its next micro-operation; `before` are the commands before it. -/
def protocolDuring (i : Instr) (pc : Nat) (before : List Instr) : ProtocolState :=
  match i with
  | .start => protocolAfter before
  | .rstart => protocolAfter before
  | .stop => .stopped
  | .wrb _ => protocolInByte pc
  | .wrdev _ =>
    if pc < 4 then protocolAfter before
    else if pc < 57 then protocolInByte (pc - 4)
    else if pc < 110 then protocolInByte (pc - 57)
    else .stopped

/-- The protocol state as the history and SEQ read (R43). While INIT runs no command has been accepted: IDLE. -/
def State.protocol (s : State) : ProtocolState :=
  match s.busy, s.accepted.reverse with
  | false, done => protocolAfter done
  | true, [] => .idle
  | true, i :: before => protocolDuring i s.pc before

end Sys2Proof.Machine
end

