-- ==== Sys2Proof/Safety.lean ====
section
/-! DEFINITION. What a safe state is: the facts the spec states of every state a run reaches (R24, R27, R33, R39, R230),
gathered as one invariant, and the views of a state that claims compare. -/

namespace Sys2Proof.Machine

/-- `SEQ.prog` is nothing, INIT, or the expansion of a command (R27, R100). -/
def knownProg (p : Params) (addr : Addr7) (prog : List MicroOp) : Prop :=
  prog = [] ∨ prog = initSeq ∨ ∃ i, prog = expand p.pReportTxnNack addr i

/-- The state a list of micro-operations last commands on a line, if it commands one (R22). -/
def lastDrive (l : Line) : List MicroOp → Option LineState
  | [] => none
  | op :: ops =>
    match lastDrive l ops with
    | some v => some v
    | none =>
      match op with
      | .release k => if k = l then some .released else none
      | .driveLow k => if k = l then some .drivenLow else none
      | .clearLatch _ => none
      | .wait _ => none
      | .sampleAck _ => none

/-- The emulation invariant "output always means low" (R39). -/
def Emulation (s : State) : Prop :=
  ∀ l, s.padLatch.get l = .low ∧ (s.padDir.get l = .output ↔ s.line.get l = .drivenLow)

/-- How far INIT has brought the pads before its micro-operation `pc` (R231); the lines are RELEASED throughout. -/
def InitProgress (s : State) : Prop :=
  (∀ l, s.line.get l = .released) ∧
    (1 ≤ s.pc → s.padDir.scl = .input) ∧ (2 ≤ s.pc → s.padDir.sda = .input) ∧ (3 ≤ s.pc → s.padLatch.scl = .low)

/-- A line is in contention: its pad drives high while a device pulls low, the first case of the wire model (R112). -/
abbrev State.contends (s : State) (l : Line) : Prop :=
  s.padDir.get l = .output ∧ s.padLatch.get l = .high ∧ s.extLow.get l = true

/-- Every element of the block's own state has its reset value (R42, R230). -/
def AtResetValues (s : State) : Prop :=
  s.line = ⟨.released, .released⟩ ∧ s.addr = s.params.pAddr ∧ s.nack = false ∧ s.errIllegal = false ∧
    s.errBusy = false ∧ s.txnAddrNack = false ∧ s.txnDataNack = false ∧ s.prog = initSeq ∧ s.pc = 0 ∧ s.wait = 0

/-- What every reachable state satisfies. -/
structure Inv (s : State) : Prop where
  /-- `0 <= SEQ.pc < len(SEQ.prog)` whenever `SEQ.prog` is not empty (R27). -/
  pcInRange : s.prog ≠ [] → s.pc < s.prog.length
  /-- An idle sequencer rests at index 0 with no WAIT begun (R28, R29). -/
  idleRests : s.prog = [] → s.pc = 0 ∧ s.wait = 0
  /-- SEQ.prog is one of the spec's expansions (R27). -/
  progKnown : knownProg s.params s.addr s.prog
  /-- A WAIT that has begun is the micro-operation at SEQ.pc, with less than all of its delay left (R29, R105). -/
  waitBegun : s.wait ≠ 0 → ∃ site, s.prog[s.pc]? = some (.wait site) ∧ s.wait < s.params.pDelay.at site
  /-- ADDR is P_ADDR (R24). -/
  addrFixed : s.addr = s.params.pAddr
  /-- The TXN flags are constant 0 when P_REPORT_TXN_NACK is false (R33). -/
  txnSilent : s.params.pReportTxnNack = false → s.txnAddrNack = false ∧ s.txnDataNack = false
  /-- During INIT: how far the pads are (R231). -/
  initProgress : s.prog = initSeq → InitProgress s
  /-- From the end of INIT on: the emulation invariant (R39). -/
  emulation : s.prog ≠ initSeq → Emulation s
  /-- LINE is what the running expansion last commanded (R22, R28). -/
  lineDriven : ∀ l v, lastDrive l (s.prog.take s.pc) = some v → s.line.get l = v
  /-- While `rst` is 1 the block's state has its reset values (R230). -/
  heldInReset : s.rst = true → AtResetValues s

/-- The state with what a device does about SCL set aside (R38: EXT_LOW[SCL] affects no rule of the block). -/
def State.withExtScl (s : State) (b : Bool) : State := { s with extLow := { s.extLow with scl := b } }

/-- The state with the environment set aside: its draw and the moment that free values are drawn for (R38, R117). -/
def State.forgetEnv (s : State) : State := { s with extLow := ⟨false, false⟩, moment := 0 }

/-- The state in which a list of turns is the next to be taken. -/
def State.withTurns (s : State) (ts : List Turn) : State := { s with turns := ts }

/-- The state in which the host makes this access next, and then these turns are taken. -/
def State.withAccess (s : State) (a : HostOp) (ts : List Turn) : State :=
  { s with host := a :: s.host, turns := .host :: ts }

/-- `n` steps of the machine, stopping at the first stop. -/
def runSteps (n : Nat) (s : State) : Host.Outcome State Fault Refusal := Host.Core.run Sys2Proof.core n s

/-- The pin trace without the levels read (R117). -/
def State.acts (s : State) : List PinAct := s.trace.map (·.act)

/-- A turn that leaves the reset input alone and does not tick the clock by itself. -/
def Turn.wholeOps : Turn → Bool
  | .host => true
  | .seq => true
  | .env _ => true
  | .clk => false
  | .reset _ => false

end Sys2Proof.Machine
end

