-- ==== Sys2Proof/Certificates/Slice0/Obligations.lean ====
section
/-! DEFINITION. The statements for the provers, from the numbered rules of the spec. Each is a `Prop`; none is proved
here. -/

open Sys2Proof Sys2Proof.Machine

/-! ### Encoding -/

/-- Words written out from the tables of 30_encoding.md R72 and 95_test_vectors.md section 2. -/
def Obligations.TableWordsDecode : Prop :=
  decodeCmd 0b0000000000000001#16 = .ok .start ∧ decodeCmd 0xAB01#16 = .ok .start ∧
    decodeCmd 0b0000000000000010#16 = .ok .stop ∧ decodeCmd 0xFF02#16 = .ok .stop ∧
    decodeCmd 0b0000000000000011#16 = .ok .rstart ∧
    decodeCmd 0b1010010100000100#16 = .ok (.wrb 0xA5#8) ∧ decodeCmd 0xFF04#16 = .ok (.wrb 0xFF#8) ∧
    decodeCmd 0b1010101100000101#16 = .ok (.wrdev 0xAB#8) ∧ decodeCmd 0x8005#16 = .ok (.wrdev 0x80#8) ∧
    decodeWord 0x0000#16 = none ∧ decodeWord 0x0006#16 = none ∧ decodeWord 0x0007#16 = none ∧
    decodeWord 0x0008#16 = none ∧ decodeWord 0x0009#16 = none ∧ decodeWord 0x00F4#16 = none

/-- Decoding an encoded instruction gives it back; a word that decodes agrees with the instruction's encoding in the
bits the opcode table fixes, and in all bits where DATA is an operand (R70 to R72, R75). -/
def Obligations.DecodeOfEncodeIsTheInstruction : Prop :=
  (∀ i : Instr, i.wf = true → decodeCmd (encode i) = .ok i ∧ decodeTableWord 16 (encode i).toNat = some i) ∧
    (∀ (w : Word) (i : Instr), decodeCmd w = .ok i →
      w &&& 0x00FF#16 = encode i &&& 0x00FF#16 ∧
        (∀ v, i = .wrb v ∨ i = .wrdev v → w = encode i))

/-- R76: decoding is total. Every word has one of the five expansions or is illegal, and which of the two depends on
`w[7:0]` alone. -/
def Obligations.EveryWordIsLegalOrRejected : Prop :=
  ∀ w w' : Word,
    (Legal w = true ↔ ∃ i, decodeCmd w = .ok i) ∧
      (Legal w = false ↔ (opField w = 0b000#3 ∨ opField w = 0b110#3 ∨ opField w = 0b111#3) ∨ rsvField w ≠ 0#5) ∧
      (w &&& 0x00FF#16 = w' &&& 0x00FF#16 → Legal w = Legal w')

/-- R75: every value of DATA gives START, STOP and RSTART the same expansion, so writing either word has one effect. -/
def Obligations.FramingCommandsIgnoreData : Prop :=
  ∀ (d d' : Byte) (op : BitVec 3) (s : State), op = opStart ∨ op = opStop ∨ op = opRstart →
    decodeCmd (cmdWord d op) = decodeCmd (cmdWord d' op) ∧
      (∃ i, decodeCmd (cmdWord d op) = .ok i) ∧ regWrite 0#2 (cmdWord d op) s = regWrite 0#2 (cmdWord d' op) s ∧
      decodeCmd 0xAB01#16 = .ok .start ∧ decodeCmd 0x0001#16 = .ok .start

/-! ### The register port -/

/-- R53: what a read of each offset returns, `rst` being 0, and that the host's turn that makes it changes nothing but
what the host sees and has still to do. -/
def Obligations.ReadsReturnTheRegisters : Prop :=
  ∀ s : State, s.rst = false →
    regRead 0#2 s = 0x0000#16 ∧ regRead 3#2 s = 0x0000#16 ∧
      (∀ k, (regRead 2#2 s).getLsbD k = s.addr.getLsbD k) ∧
      (regRead 1#2 s).getLsbD 0 = decide (0 < s.prog.length) ∧
      (regRead 1#2 s).getLsbD 1 = s.nack ∧
      (regRead 1#2 s).getLsbD 2 = s.errIllegal ∧
      (regRead 1#2 s).getLsbD 3 = s.errBusy ∧
      (regRead 1#2 s).getLsbD 4 = s.txnAddrNack ∧
      (regRead 1#2 s).getLsbD 5 = s.txnDataNack ∧
      (regRead 1#2 s).getLsbD 6 = decide (s.line.scl = .released) ∧
      (regRead 1#2 s).getLsbD 7 = decide (s.line.sda = .released) ∧
      (∀ k, 8 ≤ k → (regRead 1#2 s).getLsbD k = false) ∧
      (∀ (off : Offset) (rest : List HostOp), s.host = .read off :: rest →
        takeTurn .host s = .next { s with host := rest, rdata := regRead off s })

/-- R55: the three outcomes of a CMD write, BUSY tested first (R204). -/
def Obligations.CmdWriteStartsOrRaises : Prop :=
  ∀ (s : State) (w : Word), s.rst = false →
    (s.busy = true → regWrite 0#2 w s = .next { s with errBusy := true }) ∧
      (s.busy = false → Legal w = false → regWrite 0#2 w s = .next { s with errIllegal := true }) ∧
      (s.busy = false → Legal w = true →
        ∃ i, decodeCmd w = .ok i ∧
          regWrite 0#2 w s =
            .next { s with
              prog := expand s.params.pReportTxnNack s.addr i, pc := 0, accepted := s.accepted ++ [i] })

/-- R56: a STATUS write clears the error bits whose positions hold 1 and changes nothing else. -/
def Obligations.StatusWriteClearsErrorBits : Prop :=
  ∀ (s : State) (v : Word), s.rst = false → ∃ t, regWrite 1#2 v s = .next t ∧
    (v.getLsbD 2 = true → t.errIllegal = false) ∧ (v.getLsbD 2 = false → t.errIllegal = s.errIllegal) ∧
    (v.getLsbD 3 = true → t.errBusy = false) ∧ (v.getLsbD 3 = false → t.errBusy = s.errBusy) ∧
    t = { s with errIllegal := t.errIllegal, errBusy := t.errBusy }

/-- R54: offsets 2 and 3 ignore the write. -/
def Obligations.WritesToAddrAndReservedAreIgnored : Prop :=
  ∀ (s : State) (v : Word) (off : Offset), off = 2#2 ∨ off = 3#2 → regWrite off v s = .next s

/-- The frame of a host access (R58, R64): whatever it is, it completes and touches no line, pad, sample, pin trace,
tick or input; while a command runs it leaves SEQ alone. -/
def Obligations.HostAccessFrame : Prop :=
  ∀ s : State, ∃ t, takeTurn .host s = .next t ∧
    t.line = s.line ∧ t.addr = s.addr ∧ t.nack = s.nack ∧ t.txnAddrNack = s.txnAddrNack ∧
    t.txnDataNack = s.txnDataNack ∧ t.wait = s.wait ∧ t.padDir = s.padDir ∧ t.padLatch = s.padLatch ∧
    t.extLow = s.extLow ∧ t.rst = s.rst ∧ t.turns = s.turns ∧ t.trace = s.trace ∧ t.ticks = s.ticks ∧
    t.moment = s.moment ∧ t.params = s.params ∧
    (s.busy = true → t.prog = s.prog ∧ t.pc = s.pc ∧ t.accepted = s.accepted)

/-- R78: WAITIDLE stays while STATUS[0] is 1 and goes on when it is 0. -/
def Obligations.WaitIdlePolls : Prop :=
  ∀ (s : State) (rest : List HostOp), s.rst = false → s.host = .waitIdle :: rest →
    (s.busy = true → takeTurn .host s = .next { s with rdata := s.status }) ∧
      (s.busy = false → takeTurn .host s = .next { s with rdata := s.status, host := rest })

/-- R26, R207: an error bit once set stays set unless the host writes 1 to its position in STATUS or reset comes. -/
def Obligations.ErrorBitsAreSticky : Prop :=
  ∀ s t : State, step s = .next t →
    (s.errIllegal = true → t.errIllegal = false →
      t.rst = true ∨ ∃ v rest, s.host = .write 1#2 v :: rest ∧ v.getLsbD 2 = true) ∧
    (s.errBusy = true → t.errBusy = false →
      t.rst = true ∨ ∃ v rest, s.host = .write 1#2 v :: rest ∧ v.getLsbD 3 = true)

/-- R201, R202, R204: an error bit is set by a CMD write only, ERR_ILLEGAL by an illegal word while not BUSY, ERR_BUSY
by any word while BUSY; so no micro-operation sets one, and one write never sets both. -/
def Obligations.OnlyCmdWritesRaise : Prop :=
  ∀ s t : State, step s = .next t →
    (s.errIllegal = false → t.errIllegal = true →
      s.busy = false ∧ t.errBusy = s.errBusy ∧ ∃ w rest, s.host = .write 0#2 w :: rest ∧ Legal w = false) ∧
    (s.errBusy = false → t.errBusy = true →
      s.busy = true ∧ t.errIllegal = s.errIllegal ∧ ∃ w rest, s.host = .write 0#2 w :: rest)

/-! ### The commands -/

/-- A step runs the command that the host's CMD write decodes to, also while BUSY, where `exec` drops it (R202); around it
the step moves on to the next moment, turn and access (R51, R55, R60). The second clause is the model's choice (DESIGN
CHOICE, log 13): `withFetchWord` stands for the load of one command, takes the running expansion to its end and sets rst
to 0. -/
def Obligations.StepRunsTheDecodedCommand : Prop :=
  (∀ (s : State) (w : Word) (i : Instr) (rest : List HostOp) (ts : List Turn),
    s.turns = .host :: ts → s.host = .write 0#2 w :: rest → s.rst = false →
    decodeCmd w = .ok i → i.wf = true →
    step s = exec i { s with moment := s.moment + 1, turns := ts, host := rest }) ∧
  (∀ (s : State) (w : Word) (i : Instr), decodeCmd w = .ok i →
    step (s.withFetchWord 16 w.toNat) =
      exec i { s.settle with rst := false, moment := s.settle.moment + 1 })

/-- START, STOP and RSTART complete from every idle state: SEQ holds the rule's list from index 0, the observer notes
the command, and nothing else changes (R130, R133, R136, R55). -/
def Obligations.FramingCommandsLoadTheirSequences : Prop :=
  ∀ s : State, s.busy = false →
    exec .start s = .next { s with
      prog := [.driveLow .sda, .wait .start1, .driveLow .scl, .wait .start2], pc := 0,
      accepted := s.accepted ++ [.start] } ∧
    exec .stop s = .next { s with
      prog := [.release .scl, .wait .stop1, .release .sda, .wait .stop2], pc := 0,
      accepted := s.accepted ++ [.stop] } ∧
    exec .rstart s = .next { s with
      prog := [.release .scl, .wait .rstart1, .driveLow .sda, .wait .rstart2, .driveLow .scl, .wait .rstart3], pc := 0,
      accepted := s.accepted ++ [.rstart] }

/-- WRB completes from every idle state: SEQ holds 53 micro-operations, the eight bits most significant first and the
ACK cycle, and nothing else changes (R150, R107, R153). -/
def Obligations.WrbLoadsTheByteSequence : Prop :=
  ∀ (s : State) (v : Byte), s.busy = false → ∃ p : List MicroOp,
    exec (.wrb v) s = .next { s with prog := p, pc := 0, accepted := s.accepted ++ [.wrb v] } ∧
    p.length = 53 ∧
    (∀ k, k < 8 →
      p[6 * k]? = some (if v.getLsbD (7 - k) then MicroOp.release .sda else MicroOp.driveLow .sda) ∧
      p[6 * k + 1]? = some (.wait .bitSetup) ∧ p[6 * k + 2]? = some (.release .scl) ∧
      p[6 * k + 3]? = some (.wait .bitHigh) ∧ p[6 * k + 4]? = some (.driveLow .scl) ∧
      p[6 * k + 5]? = some (.wait .bitLow)) ∧
    p[48]? = some (.release .sda) ∧ p[49]? = some (.wait .ackSetup) ∧ p[50]? = some (.release .scl) ∧
    p[51]? = some (.sampleAck .nackField) ∧ p[52]? = some (.driveLow .scl)

/-- WRDEV completes from every idle state: SEQ holds START_SEQ, the address byte, the data byte and STOP_SEQ, 114
micro-operations with the samples at 55 and 108, and nothing else changes (R170, R171). -/
def Obligations.WrdevLoadsTheTransaction : Prop :=
  ∀ (s : State) (d : Byte), s.busy = false → ∃ p : List MicroOp,
    exec (.wrdev d) s = .next { s with prog := p, pc := 0, accepted := s.accepted ++ [.wrdev d] } ∧
    p.length = 114 ∧
    p.take 4 = startSeq ∧ p.drop 110 = stopSeq ∧
    (p.drop 4).take 51 = (byteSeq (s.addr.setWidth 8 <<< 1) .discard).take 51 ∧
    (p.drop 57).take 51 = (byteSeq d .discard).take 51 ∧
    p[55]? = some (.sampleAck (if s.params.pReportTxnNack then .txnAddr else .discard)) ∧
    p[56]? = some (.driveLow .scl) ∧
    p[108]? = some (.sampleAck (if s.params.pReportTxnNack then .txnData else .discard)) ∧
    p[109]? = some (.driveLow .scl)

/-- R202 for each command: while BUSY it is dropped, ERR_BUSY is set, and nothing else changes. -/
def Obligations.CommandsWhileBusyAreDropped : Prop :=
  ∀ (i : Instr) (s : State), s.busy = true → exec i s = .next { s with errBusy := true }

/-- R171: the address byte, with the rule's four examples. -/
def Obligations.AddressByte : Prop :=
  (∀ a : Addr7, addrByte a = a.setWidth 8 <<< 1 ||| 0x00#8 ∧ addrByte a = a ++ 0b0#1 ∧
    (addrByte a).getLsbD 0 = false ∧ (addrByte a).toNat = 2 * a.toNat ∧ (addrByte a).toNat ≤ 0xFE) ∧
  addrByte 0x27#7 = 0x4E#8 ∧ addrByte 0x00#7 = 0x00#8 ∧ addrByte 0x7F#7 = 0xFE#8 ∧ addrByte 0x3F#7 = 0x7E#8

/-! ### Micro-operations and the sequencer -/

/-- R101, R102, R103: what RELEASE, DRIVE_LOW and CLEAR_LATCH change, and that they change nothing else. -/
def Obligations.LineMicroOpsEffect : Prop :=
  ∀ (l k : Line) (s : State), k ≠ l →
    (let t := perform (.release l) s
     t.line.get l = .released ∧ t.padDir.get l = .input ∧ t.line.get k = s.line.get k ∧
       t.padDir.get k = s.padDir.get k ∧ t.trace = s.trace ++ [⟨.setDir l .input, none⟩] ∧
       t = { s with line := t.line, padDir := t.padDir, trace := t.trace }) ∧
    (let t := perform (.driveLow l) s
     t.line.get l = .drivenLow ∧ t.padDir.get l = .output ∧ t.line.get k = s.line.get k ∧
       t.padDir.get k = s.padDir.get k ∧ t.trace = s.trace ++ [⟨.setDir l .output, none⟩] ∧
       t = { s with line := t.line, padDir := t.padDir, trace := t.trace }) ∧
    (let t := perform (.clearLatch l) s
     t.padLatch.get l = .low ∧ t.padLatch.get k = s.padLatch.get k ∧
       t.trace = s.trace ++ [⟨.clearLow l, none⟩] ∧ t = { s with padLatch := t.padLatch, trace := t.trace })

/-- R106: SAMPLE_ACK reads SDA once, writes the one destination, and changes nothing else. -/
def Obligations.SampleAckEffect : Prop :=
  ∀ (d : Dest) (s : State),
    let t := perform (.sampleAck d) s
    t.trace = s.trace ++ [⟨.readLevel .sda, some (s.readLevel .sda)⟩] ∧
      t.nack = (if d = .nackField then s.readLevel .sda else s.nack) ∧
      t.txnAddrNack = (if d = .txnAddr then s.readLevel .sda else s.txnAddrNack) ∧
      t.txnDataNack = (if d = .txnData then s.readLevel .sda else s.txnDataNack) ∧
      t = { s with nack := t.nack, txnAddrNack := t.txnAddrNack, txnDataNack := t.txnDataNack, trace := t.trace }

/-- R28: one sequencer turn runs exactly one micro-operation and then advances the index; there is no step when BUSY is
0. -/
def Obligations.SequencerTurnRunsOneMicroOp : Prop :=
  ∀ s : State, s.rst = false →
    (s.busy = false → takeTurn .seq s = .next s) ∧
    (∀ op, s.prog[s.pc]? = some op → ∃ t, takeTurn .seq s = .next t ∧
      (s.pc + 1 = s.prog.length → t.prog = [] ∧ t.pc = 0) ∧
      (s.pc + 1 ≠ s.prog.length → t.prog = s.prog ∧ t.pc = s.pc + 1) ∧
      t = { perform op s with prog := t.prog, pc := t.pc, ticks := t.ticks })

/-- The frame of a sequencer turn (R41, R204): no error bit, no parameter, no input and no host access changes, and SEQ
is the running program or nothing. -/
def Obligations.SequencerTurnFrame : Prop :=
  ∀ s t : State, s.rst = false → takeTurn .seq s = .next t →
    t.addr = s.addr ∧ t.errIllegal = s.errIllegal ∧ t.errBusy = s.errBusy ∧ t.extLow = s.extLow ∧
      t.rst = s.rst ∧ t.rdata = s.rdata ∧ t.host = s.host ∧ t.turns = s.turns ∧ t.accepted = s.accepted ∧
      t.moment = s.moment ∧ t.params = s.params ∧ (t.prog = s.prog ∨ t.prog = [])

/-- R105, R29 at tick level: a WAIT loads `P_DELAY` when it begins, counts down once per tick and is over when the count
reaches 0; `P_DELAY = 0` is over with no tick passing. -/
def Obligations.WaitCountsDownTickByTick : Prop :=
  ∀ (s : State) (site : Site), s.rst = false → s.prog[s.pc]? = some (.wait site) →
    ∃ t, takeTurn .clk s = .next t ∧
      t.line = s.line ∧ t.padDir = s.padDir ∧ t.padLatch = s.padLatch ∧ t.nack = s.nack ∧
      (∀ n, (s.wait = 0 ∧ s.params.pDelay.at site = n ∨ s.wait = n ∧ n ≠ 0) →
        (2 ≤ n → t.wait = n - 1 ∧ t.ticks = s.ticks + 1 ∧ t.pc = s.pc ∧ t.prog = s.prog ∧ t.trace = s.trace) ∧
        (n ≤ 1 → t.wait = 0 ∧ t.ticks = s.ticks + n ∧
          t.trace = s.trace ++ [⟨.delay site (s.params.pDelay.at site), none⟩] ∧
          (t.prog = [] ∧ t.pc = 0 ∨ t.prog = s.prog ∧ t.pc = s.pc + 1)))

/-- R28 against R29 and R105: one step of a whole micro-operation is the run of its ticks; the two descriptions of the
sequencer agree on every field but the model's own moment counter. -/
def Obligations.MicroOpStepIsTheRunOfItsTicks : Prop :=
  ∀ (s : State) (op : MicroOp) (ts : List Turn), s.rst = false → s.prog[s.pc]? = some op →
    ∃ t t' : State,
      runSteps 1 (s.withTurns (.seq :: ts)) = .next t ∧
      runSteps (max 1 (s.ticksLeft op)) (s.withTurns (List.replicate (max 1 (s.ticksLeft op)) .clk ++ ts)) = .next t' ∧
      t = { t' with moment := t.moment }

/-- R250: the ticks of each sequence. -/
def Obligations.SequenceDurations : Prop :=
  ∀ (p : Params) (addr : Addr7) (v : Byte),
    let dl := p.pDelay
    let wrbTicks := 28 + 8 * (dl.bitSetup + dl.bitHigh + dl.bitLow) + dl.ackSetup
    ticksOf p initSeq = 4 ∧
      ticksOf p (expand p.pReportTxnNack addr .start) = 2 + dl.start1 + dl.start2 ∧
      ticksOf p (expand p.pReportTxnNack addr .stop) = 2 + dl.stop1 + dl.stop2 ∧
      ticksOf p (expand p.pReportTxnNack addr .rstart) = 3 + dl.rstart1 + dl.rstart2 + dl.rstart3 ∧
      ticksOf p (expand p.pReportTxnNack addr (.wrb v)) = wrbTicks ∧
      ticksOf p (expand p.pReportTxnNack addr (.wrdev v)) =
        4 + (dl.start1 + dl.start2) + (dl.stop1 + dl.stop2) + 2 * wrbTicks

/-! ### The wire -/

/-- The wire model of R112 in its cases, and that contention can happen only before INIT has cleared the latch. The level
in contention is the model's choice, a constant without a body (DESIGN CHOICE, log 6): nothing is said of its value. -/
def Obligations.WireModel : Prop :=
  ∀ (s : State) (l : Line),
    (Inv s → s.prog ≠ initSeq → ¬s.contends l) ∧
    (s.padDir.get l = .output ∧ s.padLatch.get l = .high ∧ s.extLow.get l = true →
      s.wire l = Config.freeContention s.moment l) ∧
    (s.padDir.get l = .output ∧ s.padLatch.get l = .low → s.wire l = false) ∧
    (s.padDir.get l = .input → s.wire l = !s.extLow.get l) ∧
    (s.padDir.get l = .output ∧ s.padLatch.get l = .high ∧ s.extLow.get l = false → s.wire l = true)

/-- R114: from the end of INIT on the level follows LINE alone, and no micro-operation sets a latch HIGH. -/
def Obligations.WireFollowsLine : Prop :=
  (∀ (s : State) (l : Line), Inv s → s.prog ≠ initSeq →
    ((s.line.get l = .drivenLow ∨ s.extLow.get l = true) → s.wire l = false) ∧
    (¬(s.line.get l = .drivenLow ∨ s.extLow.get l = true) → s.wire l = true)) ∧
  (∀ (s t : State) (l : Line), step s = .next t → t.padLatch.get l = .high → s.padLatch.get l = .high)

/-- R115: each SAMPLE_ACK of an expansion comes directly after RELEASE(SDA), WAIT(ACK_SETUP), RELEASE(SCL); in every
state of the invariant SDA is RELEASED at the sample, and the sample is `not EXT_LOW[SDA]`. -/
def Obligations.SampleIsWhatTheDeviceHolds : Prop :=
  (∀ (report : Bool) (addr : Addr7) (i : Instr) (j : Nat) (d : Dest),
    (expand report addr i)[j]? = some (.sampleAck d) →
    3 ≤ j ∧ (expand report addr i)[j - 3]? = some (.release .sda) ∧
      (expand report addr i)[j - 2]? = some (.wait .ackSetup) ∧
      (expand report addr i)[j - 1]? = some (.release .scl)) ∧
  (∀ (s : State) (d : Dest), Inv s → s.prog[s.pc]? = some (.sampleAck d) →
    s.line.sda = .released ∧ s.readLevel .sda = !s.extLow.sda)

/-- R131: the wire effect of START with a quiet bus, at each of its micro-operations. -/
def Obligations.StartConditionFromBusIdleOnly : Prop :=
  ∀ (s t : State), Inv s → s.prog = startSeq → s.rst = false → s.quietBus = true → takeTurn .seq s = .next t →
    (startCondition s t = true ↔ s.pc = 0 ∧ s.line.scl = .released ∧ s.line.sda = .released) ∧
    (s.pc < 2 → s.line.sda = .drivenLow → ∀ l, t.wire l = s.wire l) ∧
    (s.pc = 2 → t.wire .scl = false)

/-- R134: the wire effect of STOP with a quiet bus: micro-operation 0 presents SDA when SCL was low, micro-operation 2 is
a STOP condition exactly when SDA is DRIVEN_LOW, and no other micro-operation is one. -/
def Obligations.StopConditionNeedsSdaLow : Prop :=
  ∀ (s t : State), Inv s → s.prog = stopSeq → s.rst = false → s.quietBus = true → takeTurn .seq s = .next t →
    (s.pc = 0 → bitPresented s t =
      if s.line.scl = .drivenLow then some (decide (s.line.sda = .released)) else none) ∧
    (s.pc = 0 → s.line.scl = .released → ∀ l, t.wire l = s.wire l) ∧
    (stopCondition s t = true ↔ s.pc = 2 ∧ s.line.sda = .drivenLow) ∧
    (s.pc = 2 → s.line.sda = .released → ∀ l, t.wire l = s.wire l)

/-- R137: the wire effect of RSTART with a quiet bus. -/
def Obligations.RstartConditionNeedsSdaReleased : Prop :=
  ∀ (s t : State), Inv s → s.prog = rstartSeq → s.rst = false → s.quietBus = true → takeTurn .seq s = .next t →
    (s.pc = 0 → bitPresented s t =
      if s.line.scl = .drivenLow then some (decide (s.line.sda = .released)) else none) ∧
    (startCondition s t = true ↔ s.pc = 2 ∧ s.line.sda = .released)

/-- R154 and the ninth bit: entered with SCL DRIVEN_LOW and no device holding SCL, WRB presents the eight bits most
significant first, each `and not EXT_LOW[SDA]`, then the ACK level; here EXT_LOW stands still. -/
def Obligations.WrbPresentsItsBitsMsbFirst : Prop :=
  ∀ (s : State) (v : Byte) (d : Dest), Emulation s → s.line.scl = .drivenLow → s.extLow.scl = false →
    bitsPresented (byteSeq v d) s =
      [v.getLsbD 7 && !s.extLow.sda, v.getLsbD 6 && !s.extLow.sda, v.getLsbD 5 && !s.extLow.sda,
        v.getLsbD 4 && !s.extLow.sda, v.getLsbD 3 && !s.extLow.sda, v.getLsbD 2 && !s.extLow.sda,
        v.getLsbD 1 && !s.extLow.sda, v.getLsbD 0 && !s.extLow.sda, !s.extLow.sda]

/-- R154 step by step, the environment moving freely between steps: at its k-th RELEASE(SCL), SCL being DRIVEN_LOW and
no device holding SCL, a running WRB makes a rising edge that presents `v[7-k] and not EXT_LOW[SDA]` of that moment. -/
def Obligations.WrbRisingEdgePresentsTheBit : Prop :=
  ∀ (s t : State) (v : Byte) (d : Dest) (k : Nat), Inv s → s.prog = byteSeq v d → k < 8 → s.pc = 6 * k + 2 →
    s.rst = false → s.line.scl = .drivenLow → s.extLow.scl = false → takeTurn .seq s = .next t →
    bitPresented s t = some (v.getLsbD (7 - k) && !s.extLow.sda)

/-- R156, R243: nine clock pulses, whatever the byte; entered with SCL RELEASED only eight rising edges occur. -/
def Obligations.WrbTogglesSclNineTimes : Prop :=
  (∀ (v : Byte) (d : Dest),
    sclPulses (byteSeq v d) .drivenLow false = 9 ∧
      (byteSeq v d).count (.release .scl) = 9 ∧ (byteSeq v d).count (.driveLow .scl) = 9) ∧
  (∀ (s : State) (v : Byte) (d : Dest), Emulation s → s.line.scl = .released → s.extLow.scl = false →
    (bitsPresented (byteSeq v d) s).length = 8)

/-- R157: a running WRB changes the wire SDA only while SCL is DRIVEN_LOW, provided it was at entry. -/
def Obligations.WrbChangesSdaOnlyWhileSclLow : Prop :=
  ∀ (s t : State) (v : Byte) (d : Dest), Inv s → s.prog = byteSeq v d → s.rst = false →
    (s.pc = 0 → s.line.scl = .drivenLow) → takeTurn .seq s = .next t → t.wire .sda ≠ s.wire .sda →
    s.line.scl = .drivenLow ∧ t.line.scl = .drivenLow ∧ s.wire .scl = false ∧ t.wire .scl = false

/-- R174: from bus idle on a quiet bus micro-operation 0 of WRDEV is a START condition; WRDEV
presents the address byte, its ACK level, the data byte, its ACK level, and one more bit 1 at STOP's rising edge; and
TXN_SEQ holds no RSTART_SEQ. -/
def Obligations.WrdevPresentsAddressThenData : Prop :=
  ∀ (s : State) (report : Bool) (a : Addr7) (d : Byte), Emulation s → s.busIdle = true →
    (s.prog = txnSeq report a d → s.pc = 0 → s.rst = false →
      ∃ t, takeTurn .seq s = .next t ∧ startCondition s t = true) ∧
    bitsPresented (txnSeq report a d) s =
      [a.getLsbD 6, a.getLsbD 5, a.getLsbD 4, a.getLsbD 3, a.getLsbD 2, a.getLsbD 1, a.getLsbD 0, false, true,
        d.getLsbD 7, d.getLsbD 6, d.getLsbD 5, d.getLsbD 4, d.getLsbD 3, d.getLsbD 2, d.getLsbD 1, d.getLsbD 0, true,
        true] ∧
      ∀ n, ((txnSeq report a d).drop n).take 6 ≠ rstartSeq

/-- R174: no STOP condition at the end of a WRDEV on a quiet bus (90_conflicts.md C2). -/
def Obligations.WrdevMakesNoStopCondition : Prop :=
  ∀ (s t : State) (report : Bool) (a : Addr7) (d : Byte), Inv s → s.prog = txnSeq report a d → 4 ≤ s.pc →
    s.rst = false → s.quietBus = true → takeTurn .seq s = .next t → stopCondition s t = false

/-- R175: WRDEV shows the pin port what the host's START, WRB of the address byte, WRB of the data byte and STOP show it,
one after another. -/
def Obligations.WrdevShowsTheSamePinsAsSend : Prop :=
  ∀ (p : Params) (report : Bool) (a : Addr7) (d : Byte),
    (expand report a (.wrdev d)).map (MicroOp.act p) =
      (expand report a .start).map (MicroOp.act p) ++ (expand report a (.wrb (addrByte a))).map (MicroOp.act p) ++
        (expand report a (.wrb d)).map (MicroOp.act p) ++ (expand report a .stop).map (MicroOp.act p) ∧
    assembleStmt (.send (addrByte a).toNat d.toNat) =
      some [.write 0#2 (encode .start), .waitIdle, .write 0#2 (encode (.wrb (addrByte a))), .waitIdle,
        .write 0#2 (encode (.wrb d)), .waitIdle, .write 0#2 (encode .stop), .waitIdle]

/-! ### Whole commands -/

/-- R60, R62, R64, R155, R173, R177 at once: whatever the host does and whatever the devices do between the
micro-operations, a program that has just been loaded runs to its end exactly as it stands: its actions, and no other,
are added to the pin trace, its ticks pass, and each line ends as it last commanded it. -/
def Obligations.EveryInterleavingRunsTheExpansion : Prop :=
  ∀ (s : State) (ts rest : List Turn), s.rst = false → s.busy = true → s.pc = 0 → s.wait = 0 →
    (∀ t ∈ ts, t.wholeOps = true) → ts.count .seq = s.prog.length →
    ∃ t, runSteps ts.length (s.withTurns (ts ++ rest)) = .next t ∧
      t.acts = s.acts ++ s.prog.map (MicroOp.act s.params) ∧
      t.ticks = s.ticks + ticksOf s.params s.prog ∧
      (∀ l, t.line.get l = (lastDrive l s.prog).getD (s.line.get l))

/-- R132, R135, R138, R152: the lines at the end of each command, whatever the entry state, and BUSY is 0 again. -/
def Obligations.CommandsEndWithTheirLines : Prop :=
  ∀ (s : State) (i : Instr) (ts : List Turn), s.rst = false → s.busy = false → s.wait = 0 →
    ∃ t, runSteps (1 + (expand s.params.pReportTxnNack s.addr i).length)
        (s.withAccess (.write 0#2 (encode i))
          (List.replicate (expand s.params.pReportTxnNack s.addr i).length .seq ++ ts)) = .next t ∧
      t.busy = false ∧ t.turns = ts ∧ t.host = s.host ∧
      (i = .start ∨ i = .rstart → t.line = ⟨.drivenLow, .drivenLow⟩ ∧ t.nack = s.nack) ∧
      (i = .stop → t.line = ⟨.released, .released⟩ ∧ t.nack = s.nack) ∧
      (∀ v, i = .wrb v → t.line = ⟨.drivenLow, .released⟩) ∧
      (∀ d, i = .wrdev d → t.line = ⟨.released, .released⟩ ∧ t.nack = s.nack) ∧
      t.errIllegal = s.errIllegal ∧ t.errBusy = s.errBusy ∧ t.addr = s.addr

/-- R151: at BYTE_SEQ[51] a running WRB writes the sample to NACK, and no step changes NACK but such a sample and
reset. -/
def Obligations.NackIsTheLastWrbSample : Prop :=
  (∀ (s t : State) (v : Byte), Inv s → s.prog = byteSeq v .nackField → s.pc = 51 → s.rst = false →
    takeTurn .seq s = .next t → t.nack = s.readLevel .sda ∧ s.readLevel .sda = !s.extLow.sda) ∧
  (∀ s t : State, Inv s → step s = .next t → t.nack ≠ s.nack →
    t.rst = true ∨ ∃ v, s.prog = byteSeq v .nackField ∧ s.pc = 51)

/-- R172: a running WRDEV never writes NACK; with P_REPORT_TXN_NACK false it writes no flag at all, and with true its
two samples go to the TXN flags. -/
def Obligations.WrdevFlags : Prop :=
  ∀ (s t : State) (d : Byte), Inv s → s.prog = txnSeq s.params.pReportTxnNack s.addr d → s.rst = false →
    takeTurn .seq s = .next t →
    t.nack = s.nack ∧
      (s.params.pReportTxnNack = false → t.txnAddrNack = s.txnAddrNack ∧ t.txnDataNack = s.txnDataNack) ∧
      (s.params.pReportTxnNack = true →
        t.txnAddrNack = (if s.pc = 55 then !s.extLow.sda else s.txnAddrNack) ∧
        t.txnDataNack = (if s.pc = 108 then !s.extLow.sda else s.txnDataNack))

/-! ### Reset -/

/-- R42: the reset values the spec gives, and what STATUS reads during INIT. -/
def Obligations.ResetValues : Prop :=
  State.reset.line = ⟨.released, .released⟩ ∧ State.reset.addr = State.reset.params.pAddr ∧
    State.reset.nack = false ∧ State.reset.errIllegal = false ∧ State.reset.errBusy = false ∧
    State.reset.txnAddrNack = false ∧ State.reset.txnDataNack = false ∧
    State.reset.prog = [.release .scl, .release .sda, .clearLatch .scl, .clearLatch .sda] ∧
    State.reset.pc = 0 ∧ State.reset.wait = 0 ∧ regRead 1#2 State.reset = 0x00C1#16

/-- R230: while `rst` is 1 the reset values are taken from any state, no micro-operation is performed and no pin request
is made, host writes are ignored and host reads return 0x0000. -/
def Obligations.ResetTakesTheBlock : Prop :=
  (∀ s : State, ∃ t, takeTurn (.reset true) s = .next t ∧ AtResetValues t ∧ t.rst = true ∧
    t.padDir = s.padDir ∧ t.padLatch = s.padLatch ∧ t.trace = s.trace) ∧
  (∀ s : State, s.rst = true →
    (∃ t, takeTurn .seq s = .next t ∧ AtResetValues t ∧ t.padDir = s.padDir ∧ t.padLatch = s.padLatch ∧
      t.trace = s.trace ∧ t.ticks = s.ticks) ∧
    (∃ t, takeTurn .clk s = .next t ∧ AtResetValues t ∧ t.padDir = s.padDir ∧ t.padLatch = s.padLatch ∧
      t.trace = s.trace ∧ t.ticks = s.ticks + 1) ∧
    ∀ (off : Offset) (v : Word), regRead off s = 0x0000#16 ∧ regWrite off v s = .next s)

/-- R231, R232: from any reset state and any pads, four sequencer turns run INIT: the requests in order, then both lines
RELEASED, both pads INPUT with the latch LOW, and STATUS = 0x00C0; the emulation invariant holds, and on a quiet bus the
bus is idle. -/
def Obligations.InitEndsReleasedWithLatchesLow : Prop :=
  ∀ (s : State) (ts : List Turn), AtResetValues s → s.rst = false →
    ∃ t, runSteps 4 (s.withTurns ([.seq, .seq, .seq, .seq] ++ ts)) = .next t ∧
      t.line = ⟨.released, .released⟩ ∧ t.padDir = ⟨.input, .input⟩ ∧ t.padLatch = ⟨.low, .low⟩ ∧
      regRead 1#2 t = 0x00C0#16 ∧ t.turns = ts ∧ Emulation t ∧ (t.quietBus = true → t.busIdle = true) ∧
      t.acts = s.acts ++ [.setDir .scl .input, .setDir .sda .input, .clearLow .scl, .clearLow .sda]

/-- R233: INIT never pulls a wire low, whatever the devices hold, so it makes no START condition. A line in contention,
whose level is any value by R112, is the one left out (log 18). -/
def Obligations.InitNeverPullsAWireLow : Prop :=
  ∀ (s t : State), Inv s → s.prog = initSeq → s.rst = false → takeTurn .seq s = .next t →
    (∀ l, ¬s.contends l → s.wire l = true → t.wire l = true) ∧ (¬s.contends .sda → startCondition s t = false)

/-! ### The whole machine -/

/-- The invariant of `Safety.lean` holds at reset. -/
def Obligations.InvariantHoldsAtReset : Prop := Inv State.reset

/-- Every step keeps the invariant: R24, R27, R29, R33, R39 and R230 of every state a run reaches, for every
interleaving and every environment. -/
def Obligations.EveryStepKeepsTheInvariant : Prop :=
  ∀ s t : State, Inv s → step s = .next t → Inv t

/-- In a state of the invariant a step never stops: "No item is `stuck`" (93_implementation_defined.md, R251). -/
def Obligations.NoStepStops : Prop :=
  ∀ s : State, Inv s → ∃ t, step s = .next t

/-- R251: left alone, whatever the host has pending and whatever the bus does, BUSY returns to 0 within as many steps as
the running program has micro-operations left, at most 114. -/
def Obligations.BusyReturnsToZero : Prop :=
  ∀ s : State, Inv s → s.rst = false → s.turns = [] →
    s.prog.length ≤ 114 ∧
      ∃ t, runSteps (s.prog.length - s.pc) s = .next t ∧ t.busy = false

/-- R7, R24: no step changes a parameter, and in a state of the invariant none changes ADDR. -/
def Obligations.ParametersNeverChange : Prop :=
  ∀ s t : State, step s = .next t → t.params = s.params ∧ (Inv s → t.addr = s.addr)

/-- R22: only RELEASE and DRIVE_LOW of a line, and reset, change LINE. -/
def Obligations.OnlyLineMicroOpsChangeLine : Prop :=
  ∀ (s t : State) (l : Line), step s = .next t → t.line.get l ≠ s.line.get l →
    t.rst = true ∨ s.prog[s.pc]? = some (.release l) ∨ s.prog[s.pc]? = some (.driveLow l)

/-- R37: a pad's direction changes only by RELEASE or DRIVE_LOW of its line, its latch only by CLEAR_LATCH; nothing else
changes either. -/
def Obligations.OnlyRequestsChangeThePads : Prop :=
  ∀ (s t : State) (l : Line), step s = .next t →
    (t.padDir.get l ≠ s.padDir.get l →
      s.prog[s.pc]? = some (.release l) ∨ s.prog[s.pc]? = some (.driveLow l)) ∧
    (t.padLatch.get l ≠ s.padLatch.get l → s.prog[s.pc]? = some (.clearLatch l) ∧ t.padLatch.get l = .low)

/-- R38, R118: EXT_LOW[SCL] affects no rule of the block, and READ_LEVEL(SCL) is never issued. -/
def Obligations.ExtLowOfSclAffectsNothing : Prop :=
  ∀ (s t : State) (u : Turn) (b : Bool), takeTurn u s = .next t →
    (∃ t', takeTurn u (s.withExtScl b) = .next t' ∧ t'.withExtScl b = t.withExtScl b) ∧
    (PinAct.readLevel .scl ∈ t.acts → PinAct.readLevel .scl ∈ s.acts)

/-- R117: the block's one source of nondeterminism is the level a read of SDA receives. Two states that differ only in
the environment and read the same level stay so under every turn. -/
def Obligations.ReadLevelsDetermineTheRun : Prop :=
  ∀ (s s' t : State) (u : Turn), s.forgetEnv = s'.forgetEnv → s.readLevel .sda = s'.readLevel .sda →
    takeTurn u s = .next t → ∃ t', takeTurn u s' = .next t' ∧ t.forgetEnv = t'.forgetEnv

/-- R77: a command statement assembles to one CMD write, and an immediate outside 0 to 255 is an error, not a
truncation. -/
def Obligations.AssemblerChecksImmediates : Prop :=
  ∀ n : Nat,
    (n < 256 →
      assembleStmt (.wrb n) = some [.write 0#2 (BitVec.ofNat 16 n <<< 8 ||| 0x0004#16)] ∧
        assembleStmt (.wrdev n) = some [.write 0#2 (BitVec.ofNat 16 n <<< 8 ||| 0x0005#16)]) ∧
    (256 ≤ n → assembleStmt (.wrb n) = none ∧ assembleStmt (.wrdev n) = none) ∧
    assembleStmt .start = some [.write 0#2 0x0001#16] ∧ assembleStmt .stop = some [.write 0#2 0x0002#16] ∧
    assembleStmt .rstart = some [.write 0#2 0x0003#16]
end

