-- ==== Sys2Proof/Laws/State.lean ====
section
/-! SUPPORT. One lemma for each field of each single update of the state, true by `rfl`, so that no later proof unfolds a
record update. -/

namespace Sys2Proof.Machine

/-! ### setLine -/

@[simp] theorem State.setLine_line (s : State) (l : Line) (v : LineState) : (s.setLine l v).line = s.line.set l v := rfl
@[simp] theorem State.setLine_addr (s : State) (l : Line) (v : LineState) : (s.setLine l v).addr = s.addr := rfl
@[simp] theorem State.setLine_nack (s : State) (l : Line) (v : LineState) : (s.setLine l v).nack = s.nack := rfl
@[simp] theorem State.setLine_errIllegal (s : State) (l : Line) (v : LineState) : (s.setLine l v).errIllegal = s.errIllegal := rfl
@[simp] theorem State.setLine_errBusy (s : State) (l : Line) (v : LineState) : (s.setLine l v).errBusy = s.errBusy := rfl
@[simp] theorem State.setLine_txnAddrNack (s : State) (l : Line) (v : LineState) : (s.setLine l v).txnAddrNack = s.txnAddrNack := rfl
@[simp] theorem State.setLine_txnDataNack (s : State) (l : Line) (v : LineState) : (s.setLine l v).txnDataNack = s.txnDataNack := rfl
@[simp] theorem State.setLine_prog (s : State) (l : Line) (v : LineState) : (s.setLine l v).prog = s.prog := rfl
@[simp] theorem State.setLine_pc (s : State) (l : Line) (v : LineState) : (s.setLine l v).pc = s.pc := rfl
@[simp] theorem State.setLine_wait (s : State) (l : Line) (v : LineState) : (s.setLine l v).wait = s.wait := rfl
@[simp] theorem State.setLine_padDir (s : State) (l : Line) (v : LineState) : (s.setLine l v).padDir = s.padDir := rfl
@[simp] theorem State.setLine_padLatch (s : State) (l : Line) (v : LineState) : (s.setLine l v).padLatch = s.padLatch := rfl
@[simp] theorem State.setLine_extLow (s : State) (l : Line) (v : LineState) : (s.setLine l v).extLow = s.extLow := rfl
@[simp] theorem State.setLine_rst (s : State) (l : Line) (v : LineState) : (s.setLine l v).rst = s.rst := rfl
@[simp] theorem State.setLine_rdata (s : State) (l : Line) (v : LineState) : (s.setLine l v).rdata = s.rdata := rfl
@[simp] theorem State.setLine_host (s : State) (l : Line) (v : LineState) : (s.setLine l v).host = s.host := rfl
@[simp] theorem State.setLine_turns (s : State) (l : Line) (v : LineState) : (s.setLine l v).turns = s.turns := rfl
@[simp] theorem State.setLine_trace (s : State) (l : Line) (v : LineState) : (s.setLine l v).trace = s.trace := rfl
@[simp] theorem State.setLine_ticks (s : State) (l : Line) (v : LineState) : (s.setLine l v).ticks = s.ticks := rfl
@[simp] theorem State.setLine_accepted (s : State) (l : Line) (v : LineState) : (s.setLine l v).accepted = s.accepted := rfl
@[simp] theorem State.setLine_moment (s : State) (l : Line) (v : LineState) : (s.setLine l v).moment = s.moment := rfl
@[simp] theorem State.setLine_params (s : State) (l : Line) (v : LineState) : (s.setLine l v).params = s.params := rfl

/-! ### setPadDir -/

@[simp] theorem State.setPadDir_line (s : State) (l : Line) (d : PadDir) : (s.setPadDir l d).line = s.line := rfl
@[simp] theorem State.setPadDir_addr (s : State) (l : Line) (d : PadDir) : (s.setPadDir l d).addr = s.addr := rfl
@[simp] theorem State.setPadDir_nack (s : State) (l : Line) (d : PadDir) : (s.setPadDir l d).nack = s.nack := rfl
@[simp] theorem State.setPadDir_errIllegal (s : State) (l : Line) (d : PadDir) : (s.setPadDir l d).errIllegal = s.errIllegal := rfl
@[simp] theorem State.setPadDir_errBusy (s : State) (l : Line) (d : PadDir) : (s.setPadDir l d).errBusy = s.errBusy := rfl
@[simp] theorem State.setPadDir_txnAddrNack (s : State) (l : Line) (d : PadDir) : (s.setPadDir l d).txnAddrNack = s.txnAddrNack := rfl
@[simp] theorem State.setPadDir_txnDataNack (s : State) (l : Line) (d : PadDir) : (s.setPadDir l d).txnDataNack = s.txnDataNack := rfl
@[simp] theorem State.setPadDir_prog (s : State) (l : Line) (d : PadDir) : (s.setPadDir l d).prog = s.prog := rfl
@[simp] theorem State.setPadDir_pc (s : State) (l : Line) (d : PadDir) : (s.setPadDir l d).pc = s.pc := rfl
@[simp] theorem State.setPadDir_wait (s : State) (l : Line) (d : PadDir) : (s.setPadDir l d).wait = s.wait := rfl
@[simp] theorem State.setPadDir_padDir (s : State) (l : Line) (d : PadDir) : (s.setPadDir l d).padDir = s.padDir.set l d := rfl
@[simp] theorem State.setPadDir_padLatch (s : State) (l : Line) (d : PadDir) : (s.setPadDir l d).padLatch = s.padLatch := rfl
@[simp] theorem State.setPadDir_extLow (s : State) (l : Line) (d : PadDir) : (s.setPadDir l d).extLow = s.extLow := rfl
@[simp] theorem State.setPadDir_rst (s : State) (l : Line) (d : PadDir) : (s.setPadDir l d).rst = s.rst := rfl
@[simp] theorem State.setPadDir_rdata (s : State) (l : Line) (d : PadDir) : (s.setPadDir l d).rdata = s.rdata := rfl
@[simp] theorem State.setPadDir_host (s : State) (l : Line) (d : PadDir) : (s.setPadDir l d).host = s.host := rfl
@[simp] theorem State.setPadDir_turns (s : State) (l : Line) (d : PadDir) : (s.setPadDir l d).turns = s.turns := rfl
@[simp] theorem State.setPadDir_trace (s : State) (l : Line) (d : PadDir) : (s.setPadDir l d).trace = s.trace := rfl
@[simp] theorem State.setPadDir_ticks (s : State) (l : Line) (d : PadDir) : (s.setPadDir l d).ticks = s.ticks := rfl
@[simp] theorem State.setPadDir_accepted (s : State) (l : Line) (d : PadDir) : (s.setPadDir l d).accepted = s.accepted := rfl
@[simp] theorem State.setPadDir_moment (s : State) (l : Line) (d : PadDir) : (s.setPadDir l d).moment = s.moment := rfl
@[simp] theorem State.setPadDir_params (s : State) (l : Line) (d : PadDir) : (s.setPadDir l d).params = s.params := rfl

/-! ### clearPadLatch -/

@[simp] theorem State.clearPadLatch_line (s : State) (l : Line) : (s.clearPadLatch l).line = s.line := rfl
@[simp] theorem State.clearPadLatch_addr (s : State) (l : Line) : (s.clearPadLatch l).addr = s.addr := rfl
@[simp] theorem State.clearPadLatch_nack (s : State) (l : Line) : (s.clearPadLatch l).nack = s.nack := rfl
@[simp] theorem State.clearPadLatch_errIllegal (s : State) (l : Line) : (s.clearPadLatch l).errIllegal = s.errIllegal := rfl
@[simp] theorem State.clearPadLatch_errBusy (s : State) (l : Line) : (s.clearPadLatch l).errBusy = s.errBusy := rfl
@[simp] theorem State.clearPadLatch_txnAddrNack (s : State) (l : Line) : (s.clearPadLatch l).txnAddrNack = s.txnAddrNack := rfl
@[simp] theorem State.clearPadLatch_txnDataNack (s : State) (l : Line) : (s.clearPadLatch l).txnDataNack = s.txnDataNack := rfl
@[simp] theorem State.clearPadLatch_prog (s : State) (l : Line) : (s.clearPadLatch l).prog = s.prog := rfl
@[simp] theorem State.clearPadLatch_pc (s : State) (l : Line) : (s.clearPadLatch l).pc = s.pc := rfl
@[simp] theorem State.clearPadLatch_wait (s : State) (l : Line) : (s.clearPadLatch l).wait = s.wait := rfl
@[simp] theorem State.clearPadLatch_padDir (s : State) (l : Line) : (s.clearPadLatch l).padDir = s.padDir := rfl
@[simp] theorem State.clearPadLatch_padLatch (s : State) (l : Line) : (s.clearPadLatch l).padLatch = s.padLatch.set l .low := rfl
@[simp] theorem State.clearPadLatch_extLow (s : State) (l : Line) : (s.clearPadLatch l).extLow = s.extLow := rfl
@[simp] theorem State.clearPadLatch_rst (s : State) (l : Line) : (s.clearPadLatch l).rst = s.rst := rfl
@[simp] theorem State.clearPadLatch_rdata (s : State) (l : Line) : (s.clearPadLatch l).rdata = s.rdata := rfl
@[simp] theorem State.clearPadLatch_host (s : State) (l : Line) : (s.clearPadLatch l).host = s.host := rfl
@[simp] theorem State.clearPadLatch_turns (s : State) (l : Line) : (s.clearPadLatch l).turns = s.turns := rfl
@[simp] theorem State.clearPadLatch_trace (s : State) (l : Line) : (s.clearPadLatch l).trace = s.trace := rfl
@[simp] theorem State.clearPadLatch_ticks (s : State) (l : Line) : (s.clearPadLatch l).ticks = s.ticks := rfl
@[simp] theorem State.clearPadLatch_accepted (s : State) (l : Line) : (s.clearPadLatch l).accepted = s.accepted := rfl
@[simp] theorem State.clearPadLatch_moment (s : State) (l : Line) : (s.clearPadLatch l).moment = s.moment := rfl
@[simp] theorem State.clearPadLatch_params (s : State) (l : Line) : (s.clearPadLatch l).params = s.params := rfl

/-! ### logPin -/

@[simp] theorem State.logPin_line (s : State) (a : PinAct) (r : Option Level) : (s.logPin a r).line = s.line := rfl
@[simp] theorem State.logPin_addr (s : State) (a : PinAct) (r : Option Level) : (s.logPin a r).addr = s.addr := rfl
@[simp] theorem State.logPin_nack (s : State) (a : PinAct) (r : Option Level) : (s.logPin a r).nack = s.nack := rfl
@[simp] theorem State.logPin_errIllegal (s : State) (a : PinAct) (r : Option Level) : (s.logPin a r).errIllegal = s.errIllegal := rfl
@[simp] theorem State.logPin_errBusy (s : State) (a : PinAct) (r : Option Level) : (s.logPin a r).errBusy = s.errBusy := rfl
@[simp] theorem State.logPin_txnAddrNack (s : State) (a : PinAct) (r : Option Level) : (s.logPin a r).txnAddrNack = s.txnAddrNack := rfl
@[simp] theorem State.logPin_txnDataNack (s : State) (a : PinAct) (r : Option Level) : (s.logPin a r).txnDataNack = s.txnDataNack := rfl
@[simp] theorem State.logPin_prog (s : State) (a : PinAct) (r : Option Level) : (s.logPin a r).prog = s.prog := rfl
@[simp] theorem State.logPin_pc (s : State) (a : PinAct) (r : Option Level) : (s.logPin a r).pc = s.pc := rfl
@[simp] theorem State.logPin_wait (s : State) (a : PinAct) (r : Option Level) : (s.logPin a r).wait = s.wait := rfl
@[simp] theorem State.logPin_padDir (s : State) (a : PinAct) (r : Option Level) : (s.logPin a r).padDir = s.padDir := rfl
@[simp] theorem State.logPin_padLatch (s : State) (a : PinAct) (r : Option Level) : (s.logPin a r).padLatch = s.padLatch := rfl
@[simp] theorem State.logPin_extLow (s : State) (a : PinAct) (r : Option Level) : (s.logPin a r).extLow = s.extLow := rfl
@[simp] theorem State.logPin_rst (s : State) (a : PinAct) (r : Option Level) : (s.logPin a r).rst = s.rst := rfl
@[simp] theorem State.logPin_rdata (s : State) (a : PinAct) (r : Option Level) : (s.logPin a r).rdata = s.rdata := rfl
@[simp] theorem State.logPin_host (s : State) (a : PinAct) (r : Option Level) : (s.logPin a r).host = s.host := rfl
@[simp] theorem State.logPin_turns (s : State) (a : PinAct) (r : Option Level) : (s.logPin a r).turns = s.turns := rfl
@[simp] theorem State.logPin_trace (s : State) (a : PinAct) (r : Option Level) : (s.logPin a r).trace = s.trace ++ [⟨a, r⟩] := rfl
@[simp] theorem State.logPin_ticks (s : State) (a : PinAct) (r : Option Level) : (s.logPin a r).ticks = s.ticks := rfl
@[simp] theorem State.logPin_accepted (s : State) (a : PinAct) (r : Option Level) : (s.logPin a r).accepted = s.accepted := rfl
@[simp] theorem State.logPin_moment (s : State) (a : PinAct) (r : Option Level) : (s.logPin a r).moment = s.moment := rfl
@[simp] theorem State.logPin_params (s : State) (a : PinAct) (r : Option Level) : (s.logPin a r).params = s.params := rfl

/-! ### passTicks -/

@[simp] theorem State.passTicks_line (s : State) (n : Nat) : (s.passTicks n).line = s.line := rfl
@[simp] theorem State.passTicks_addr (s : State) (n : Nat) : (s.passTicks n).addr = s.addr := rfl
@[simp] theorem State.passTicks_nack (s : State) (n : Nat) : (s.passTicks n).nack = s.nack := rfl
@[simp] theorem State.passTicks_errIllegal (s : State) (n : Nat) : (s.passTicks n).errIllegal = s.errIllegal := rfl
@[simp] theorem State.passTicks_errBusy (s : State) (n : Nat) : (s.passTicks n).errBusy = s.errBusy := rfl
@[simp] theorem State.passTicks_txnAddrNack (s : State) (n : Nat) : (s.passTicks n).txnAddrNack = s.txnAddrNack := rfl
@[simp] theorem State.passTicks_txnDataNack (s : State) (n : Nat) : (s.passTicks n).txnDataNack = s.txnDataNack := rfl
@[simp] theorem State.passTicks_prog (s : State) (n : Nat) : (s.passTicks n).prog = s.prog := rfl
@[simp] theorem State.passTicks_pc (s : State) (n : Nat) : (s.passTicks n).pc = s.pc := rfl
@[simp] theorem State.passTicks_wait (s : State) (n : Nat) : (s.passTicks n).wait = s.wait := rfl
@[simp] theorem State.passTicks_padDir (s : State) (n : Nat) : (s.passTicks n).padDir = s.padDir := rfl
@[simp] theorem State.passTicks_padLatch (s : State) (n : Nat) : (s.passTicks n).padLatch = s.padLatch := rfl
@[simp] theorem State.passTicks_extLow (s : State) (n : Nat) : (s.passTicks n).extLow = s.extLow := rfl
@[simp] theorem State.passTicks_rst (s : State) (n : Nat) : (s.passTicks n).rst = s.rst := rfl
@[simp] theorem State.passTicks_rdata (s : State) (n : Nat) : (s.passTicks n).rdata = s.rdata := rfl
@[simp] theorem State.passTicks_host (s : State) (n : Nat) : (s.passTicks n).host = s.host := rfl
@[simp] theorem State.passTicks_turns (s : State) (n : Nat) : (s.passTicks n).turns = s.turns := rfl
@[simp] theorem State.passTicks_trace (s : State) (n : Nat) : (s.passTicks n).trace = s.trace := rfl
@[simp] theorem State.passTicks_ticks (s : State) (n : Nat) : (s.passTicks n).ticks = s.ticks + n := rfl
@[simp] theorem State.passTicks_accepted (s : State) (n : Nat) : (s.passTicks n).accepted = s.accepted := rfl
@[simp] theorem State.passTicks_moment (s : State) (n : Nat) : (s.passTicks n).moment = s.moment := rfl
@[simp] theorem State.passTicks_params (s : State) (n : Nat) : (s.passTicks n).params = s.params := rfl

/-! ### load -/

@[simp] theorem State.load_line (s : State) (i : Instr) (p : List MicroOp) : (s.load i p).line = s.line := rfl
@[simp] theorem State.load_addr (s : State) (i : Instr) (p : List MicroOp) : (s.load i p).addr = s.addr := rfl
@[simp] theorem State.load_nack (s : State) (i : Instr) (p : List MicroOp) : (s.load i p).nack = s.nack := rfl
@[simp] theorem State.load_errIllegal (s : State) (i : Instr) (p : List MicroOp) : (s.load i p).errIllegal = s.errIllegal := rfl
@[simp] theorem State.load_errBusy (s : State) (i : Instr) (p : List MicroOp) : (s.load i p).errBusy = s.errBusy := rfl
@[simp] theorem State.load_txnAddrNack (s : State) (i : Instr) (p : List MicroOp) : (s.load i p).txnAddrNack = s.txnAddrNack := rfl
@[simp] theorem State.load_txnDataNack (s : State) (i : Instr) (p : List MicroOp) : (s.load i p).txnDataNack = s.txnDataNack := rfl
@[simp] theorem State.load_prog (s : State) (i : Instr) (p : List MicroOp) : (s.load i p).prog = p := rfl
@[simp] theorem State.load_pc (s : State) (i : Instr) (p : List MicroOp) : (s.load i p).pc = 0 := rfl
@[simp] theorem State.load_wait (s : State) (i : Instr) (p : List MicroOp) : (s.load i p).wait = s.wait := rfl
@[simp] theorem State.load_padDir (s : State) (i : Instr) (p : List MicroOp) : (s.load i p).padDir = s.padDir := rfl
@[simp] theorem State.load_padLatch (s : State) (i : Instr) (p : List MicroOp) : (s.load i p).padLatch = s.padLatch := rfl
@[simp] theorem State.load_extLow (s : State) (i : Instr) (p : List MicroOp) : (s.load i p).extLow = s.extLow := rfl
@[simp] theorem State.load_rst (s : State) (i : Instr) (p : List MicroOp) : (s.load i p).rst = s.rst := rfl
@[simp] theorem State.load_rdata (s : State) (i : Instr) (p : List MicroOp) : (s.load i p).rdata = s.rdata := rfl
@[simp] theorem State.load_host (s : State) (i : Instr) (p : List MicroOp) : (s.load i p).host = s.host := rfl
@[simp] theorem State.load_turns (s : State) (i : Instr) (p : List MicroOp) : (s.load i p).turns = s.turns := rfl
@[simp] theorem State.load_trace (s : State) (i : Instr) (p : List MicroOp) : (s.load i p).trace = s.trace := rfl
@[simp] theorem State.load_ticks (s : State) (i : Instr) (p : List MicroOp) : (s.load i p).ticks = s.ticks := rfl
@[simp] theorem State.load_accepted (s : State) (i : Instr) (p : List MicroOp) : (s.load i p).accepted = s.accepted ++ [i] := rfl
@[simp] theorem State.load_moment (s : State) (i : Instr) (p : List MicroOp) : (s.load i p).moment = s.moment := rfl
@[simp] theorem State.load_params (s : State) (i : Instr) (p : List MicroOp) : (s.load i p).params = s.params := rfl

/-! ### drawEnv -/

@[simp] theorem State.drawEnv_line (s : State) : (s.drawEnv).line = s.line := rfl
@[simp] theorem State.drawEnv_addr (s : State) : (s.drawEnv).addr = s.addr := rfl
@[simp] theorem State.drawEnv_nack (s : State) : (s.drawEnv).nack = s.nack := rfl
@[simp] theorem State.drawEnv_errIllegal (s : State) : (s.drawEnv).errIllegal = s.errIllegal := rfl
@[simp] theorem State.drawEnv_errBusy (s : State) : (s.drawEnv).errBusy = s.errBusy := rfl
@[simp] theorem State.drawEnv_txnAddrNack (s : State) : (s.drawEnv).txnAddrNack = s.txnAddrNack := rfl
@[simp] theorem State.drawEnv_txnDataNack (s : State) : (s.drawEnv).txnDataNack = s.txnDataNack := rfl
@[simp] theorem State.drawEnv_prog (s : State) : (s.drawEnv).prog = s.prog := rfl
@[simp] theorem State.drawEnv_pc (s : State) : (s.drawEnv).pc = s.pc := rfl
@[simp] theorem State.drawEnv_wait (s : State) : (s.drawEnv).wait = s.wait := rfl
@[simp] theorem State.drawEnv_padDir (s : State) : (s.drawEnv).padDir = s.padDir := rfl
@[simp] theorem State.drawEnv_padLatch (s : State) : (s.drawEnv).padLatch = s.padLatch := rfl
@[simp] theorem State.drawEnv_extLow (s : State) : (s.drawEnv).extLow = ⟨Config.freeExtLow s.moment .scl, Config.freeExtLow s.moment .sda⟩ := rfl
@[simp] theorem State.drawEnv_rst (s : State) : (s.drawEnv).rst = s.rst := rfl
@[simp] theorem State.drawEnv_rdata (s : State) : (s.drawEnv).rdata = s.rdata := rfl
@[simp] theorem State.drawEnv_host (s : State) : (s.drawEnv).host = s.host := rfl
@[simp] theorem State.drawEnv_turns (s : State) : (s.drawEnv).turns = s.turns := rfl
@[simp] theorem State.drawEnv_trace (s : State) : (s.drawEnv).trace = s.trace := rfl
@[simp] theorem State.drawEnv_ticks (s : State) : (s.drawEnv).ticks = s.ticks := rfl
@[simp] theorem State.drawEnv_accepted (s : State) : (s.drawEnv).accepted = s.accepted := rfl
@[simp] theorem State.drawEnv_moment (s : State) : (s.drawEnv).moment = s.moment := rfl
@[simp] theorem State.drawEnv_params (s : State) : (s.drawEnv).params = s.params := rfl

/-! ### nextMoment -/

@[simp] theorem State.nextMoment_line (s : State) : (s.nextMoment).line = s.line := rfl
@[simp] theorem State.nextMoment_addr (s : State) : (s.nextMoment).addr = s.addr := rfl
@[simp] theorem State.nextMoment_nack (s : State) : (s.nextMoment).nack = s.nack := rfl
@[simp] theorem State.nextMoment_errIllegal (s : State) : (s.nextMoment).errIllegal = s.errIllegal := rfl
@[simp] theorem State.nextMoment_errBusy (s : State) : (s.nextMoment).errBusy = s.errBusy := rfl
@[simp] theorem State.nextMoment_txnAddrNack (s : State) : (s.nextMoment).txnAddrNack = s.txnAddrNack := rfl
@[simp] theorem State.nextMoment_txnDataNack (s : State) : (s.nextMoment).txnDataNack = s.txnDataNack := rfl
@[simp] theorem State.nextMoment_prog (s : State) : (s.nextMoment).prog = s.prog := rfl
@[simp] theorem State.nextMoment_pc (s : State) : (s.nextMoment).pc = s.pc := rfl
@[simp] theorem State.nextMoment_wait (s : State) : (s.nextMoment).wait = s.wait := rfl
@[simp] theorem State.nextMoment_padDir (s : State) : (s.nextMoment).padDir = s.padDir := rfl
@[simp] theorem State.nextMoment_padLatch (s : State) : (s.nextMoment).padLatch = s.padLatch := rfl
@[simp] theorem State.nextMoment_extLow (s : State) : (s.nextMoment).extLow = s.extLow := rfl
@[simp] theorem State.nextMoment_rst (s : State) : (s.nextMoment).rst = s.rst := rfl
@[simp] theorem State.nextMoment_rdata (s : State) : (s.nextMoment).rdata = s.rdata := rfl
@[simp] theorem State.nextMoment_host (s : State) : (s.nextMoment).host = s.host := rfl
@[simp] theorem State.nextMoment_turns (s : State) : (s.nextMoment).turns = s.turns.tail := rfl
@[simp] theorem State.nextMoment_trace (s : State) : (s.nextMoment).trace = s.trace := rfl
@[simp] theorem State.nextMoment_ticks (s : State) : (s.nextMoment).ticks = s.ticks := rfl
@[simp] theorem State.nextMoment_accepted (s : State) : (s.nextMoment).accepted = s.accepted := rfl
@[simp] theorem State.nextMoment_moment (s : State) : (s.nextMoment).moment = s.moment + 1 := rfl
@[simp] theorem State.nextMoment_params (s : State) : (s.nextMoment).params = s.params := rfl

/-! ### withTurns -/

@[simp] theorem State.withTurns_line (s : State) (ts : List Turn) : (s.withTurns ts).line = s.line := rfl
@[simp] theorem State.withTurns_addr (s : State) (ts : List Turn) : (s.withTurns ts).addr = s.addr := rfl
@[simp] theorem State.withTurns_nack (s : State) (ts : List Turn) : (s.withTurns ts).nack = s.nack := rfl
@[simp] theorem State.withTurns_errIllegal (s : State) (ts : List Turn) : (s.withTurns ts).errIllegal = s.errIllegal := rfl
@[simp] theorem State.withTurns_errBusy (s : State) (ts : List Turn) : (s.withTurns ts).errBusy = s.errBusy := rfl
@[simp] theorem State.withTurns_txnAddrNack (s : State) (ts : List Turn) : (s.withTurns ts).txnAddrNack = s.txnAddrNack := rfl
@[simp] theorem State.withTurns_txnDataNack (s : State) (ts : List Turn) : (s.withTurns ts).txnDataNack = s.txnDataNack := rfl
@[simp] theorem State.withTurns_prog (s : State) (ts : List Turn) : (s.withTurns ts).prog = s.prog := rfl
@[simp] theorem State.withTurns_pc (s : State) (ts : List Turn) : (s.withTurns ts).pc = s.pc := rfl
@[simp] theorem State.withTurns_wait (s : State) (ts : List Turn) : (s.withTurns ts).wait = s.wait := rfl
@[simp] theorem State.withTurns_padDir (s : State) (ts : List Turn) : (s.withTurns ts).padDir = s.padDir := rfl
@[simp] theorem State.withTurns_padLatch (s : State) (ts : List Turn) : (s.withTurns ts).padLatch = s.padLatch := rfl
@[simp] theorem State.withTurns_extLow (s : State) (ts : List Turn) : (s.withTurns ts).extLow = s.extLow := rfl
@[simp] theorem State.withTurns_rst (s : State) (ts : List Turn) : (s.withTurns ts).rst = s.rst := rfl
@[simp] theorem State.withTurns_rdata (s : State) (ts : List Turn) : (s.withTurns ts).rdata = s.rdata := rfl
@[simp] theorem State.withTurns_host (s : State) (ts : List Turn) : (s.withTurns ts).host = s.host := rfl
@[simp] theorem State.withTurns_turns (s : State) (ts : List Turn) : (s.withTurns ts).turns = ts := rfl
@[simp] theorem State.withTurns_trace (s : State) (ts : List Turn) : (s.withTurns ts).trace = s.trace := rfl
@[simp] theorem State.withTurns_ticks (s : State) (ts : List Turn) : (s.withTurns ts).ticks = s.ticks := rfl
@[simp] theorem State.withTurns_accepted (s : State) (ts : List Turn) : (s.withTurns ts).accepted = s.accepted := rfl
@[simp] theorem State.withTurns_moment (s : State) (ts : List Turn) : (s.withTurns ts).moment = s.moment := rfl
@[simp] theorem State.withTurns_params (s : State) (ts : List Turn) : (s.withTurns ts).params = s.params := rfl

/-! ### applyReset -/

@[simp] theorem applyReset_line (s : State) : (applyReset s).line = ⟨.released, .released⟩ := rfl
@[simp] theorem applyReset_addr (s : State) : (applyReset s).addr = s.params.pAddr := rfl
@[simp] theorem applyReset_nack (s : State) : (applyReset s).nack = false := rfl
@[simp] theorem applyReset_errIllegal (s : State) : (applyReset s).errIllegal = false := rfl
@[simp] theorem applyReset_errBusy (s : State) : (applyReset s).errBusy = false := rfl
@[simp] theorem applyReset_txnAddrNack (s : State) : (applyReset s).txnAddrNack = false := rfl
@[simp] theorem applyReset_txnDataNack (s : State) : (applyReset s).txnDataNack = false := rfl
@[simp] theorem applyReset_prog (s : State) : (applyReset s).prog = initSeq := rfl
@[simp] theorem applyReset_pc (s : State) : (applyReset s).pc = 0 := rfl
@[simp] theorem applyReset_wait (s : State) : (applyReset s).wait = 0 := rfl
@[simp] theorem applyReset_padDir (s : State) : (applyReset s).padDir = s.padDir := rfl
@[simp] theorem applyReset_padLatch (s : State) : (applyReset s).padLatch = s.padLatch := rfl
@[simp] theorem applyReset_extLow (s : State) : (applyReset s).extLow = s.extLow := rfl
@[simp] theorem applyReset_rst (s : State) : (applyReset s).rst = s.rst := rfl
@[simp] theorem applyReset_rdata (s : State) : (applyReset s).rdata = s.rdata := rfl
@[simp] theorem applyReset_host (s : State) : (applyReset s).host = s.host := rfl
@[simp] theorem applyReset_turns (s : State) : (applyReset s).turns = s.turns := rfl
@[simp] theorem applyReset_trace (s : State) : (applyReset s).trace = s.trace := rfl
@[simp] theorem applyReset_ticks (s : State) : (applyReset s).ticks = s.ticks := rfl
@[simp] theorem applyReset_accepted (s : State) : (applyReset s).accepted = [] := rfl
@[simp] theorem applyReset_moment (s : State) : (applyReset s).moment = s.moment := rfl
@[simp] theorem applyReset_params (s : State) : (applyReset s).params = s.params := rfl

end Sys2Proof.Machine
end

