-- ==== Sys2Proof/Laws/Ops.lean ====
section
/-! SUPPORT. The small lemmas of the named operations: a pair of lines, the pin port, errors, acceptance, reset, and the
frame of each micro-operation. -/

namespace Sys2Proof

@[simp] theorem PerLine.get_set_self {α : Type} (p : PerLine α) (l : Line) (v : α) : (p.set l v).get l = v := by
  cases l <;> rfl

theorem PerLine.get_set {α : Type} (p : PerLine α) (l k : Line) (v : α) :
    (p.set l v).get k = if k = l then v else p.get k := by
  cases l <;> cases k <;> rfl

@[simp] theorem PerLine.get_mk_scl {α : Type} (a b : α) : (PerLine.mk a b).get .scl = a := rfl
@[simp] theorem PerLine.get_mk_sda {α : Type} (a b : α) : (PerLine.mk a b).get .sda = b := rfl

theorem PerLine.get_scl {α : Type} (p : PerLine α) : p.get .scl = p.scl := rfl
theorem PerLine.get_sda {α : Type} (p : PerLine α) : p.get .sda = p.sda := rfl

/-- Two pairs with the same two values are equal. -/
theorem PerLine.ext_get {α : Type} {p q : PerLine α} (h : ∀ l, p.get l = q.get l) : p = q := by
  have h1 := h .scl
  have h2 := h .sda
  cases p; cases q
  simp_all [PerLine.get]

namespace Machine

/-! ### BUSY -/

theorem State.busy_eq_true (s : State) : s.busy = true ↔ s.prog ≠ [] := by
  simp [State.busy]

theorem State.busy_eq_false (s : State) : s.busy = false ↔ s.prog = [] := by
  simp [State.busy]

theorem LineState.level_eq_decide (v : LineState) : v.level = decide (v = .released) := by cases v <;> rfl

/-! ### The wire -/

/-- Away from contention the wire is low exactly when the pad sinks it or a device holds it (R112). -/
theorem State.wire_of_latch_low {s : State} {l : Line} (h : s.padLatch.get l = .low) :
    s.wire l = !(decide (s.padDir.get l = .output) || s.extLow.get l) := by
  cases hd : s.padDir.get l <;> cases he : s.extLow.get l <;> simp [State.wire, h, hd, he]

/-- An INPUT pad leaves the wire to the devices (R112). -/
theorem State.wire_of_input {s : State} {l : Line} (h : s.padDir.get l = .input) : s.wire l = !s.extLow.get l := by
  cases he : s.extLow.get l <;> simp [State.wire, h, he]

/-- Under the emulation invariant the wire follows LINE (R39, R114). -/
theorem Emulation.wire {s : State} (h : Emulation s) (l : Line) :
    s.wire l = ((s.line.get l).level && !s.extLow.get l) := by
  rw [State.wire_of_latch_low (h l).1]
  have := (h l).2
  cases hd : s.padDir.get l <;> cases hl : s.line.get l <;> simp_all [LineState.level]

/-- No line is in contention under the emulation invariant (R39, R112). -/
theorem Emulation.not_contends {s : State} (h : Emulation s) (l : Line) : ¬s.contends l := fun hc => by
  have hl := (h l).1
  rw [hc.2.1] at hl
  cases hl

/-- Outside contention a wire that is high is held low by no device (R112). -/
theorem State.extLow_of_wire {s : State} {l : Line} (hc : ¬s.contends l) (hw : s.wire l = true) :
    s.extLow.get l = false := by
  cases he : s.extLow.get l with
  | false => rfl
  | true =>
    rw [State.wire, if_neg hc, if_pos (.inr he)] at hw
    cases hw

/-! ### Micro-operations -/

theorem perform_release (l : Line) (s : State) :
    perform (.release l) s =
      { s with
        line := s.line.set l .released
        padDir := s.padDir.set l .input
        trace := s.trace ++ [⟨.setDir l .input, none⟩] } := rfl

theorem perform_driveLow (l : Line) (s : State) :
    perform (.driveLow l) s =
      { s with
        line := s.line.set l .drivenLow
        padDir := s.padDir.set l .output
        trace := s.trace ++ [⟨.setDir l .output, none⟩] } := rfl

theorem perform_clearLatch (l : Line) (s : State) :
    perform (.clearLatch l) s =
      { s with padLatch := s.padLatch.set l .low, trace := s.trace ++ [⟨.clearLow l, none⟩] } := rfl

theorem perform_wait (site : Site) (s : State) :
    perform (.wait site) s =
      { s with wait := 0, trace := s.trace ++ [⟨.delay site (s.params.pDelay.at site), none⟩] } := rfl

theorem perform_sampleAck (d : Dest) (s : State) :
    perform (.sampleAck d) s =
      { s with
        nack := if d = .nackField then s.readLevel .sda else s.nack
        txnAddrNack := if d = .txnAddr then s.readLevel .sda else s.txnAddrNack
        txnDataNack := if d = .txnData then s.readLevel .sda else s.txnDataNack
        trace := s.trace ++ [⟨.readLevel .sda, some (s.readLevel .sda)⟩] } := by
  cases d <;> rfl

/-- Everything a micro-operation can do, field by field (R101 to R106). -/
theorem perform_fields (op : MicroOp) (s : State) :
    perform op s =
      { s with
        line := match op with
          | .release l => s.line.set l .released
          | .driveLow l => s.line.set l .drivenLow
          | _ => s.line
        padDir := match op with
          | .release l => s.padDir.set l .input
          | .driveLow l => s.padDir.set l .output
          | _ => s.padDir
        padLatch := match op with
          | .clearLatch l => s.padLatch.set l .low
          | _ => s.padLatch
        nack := match op with
          | .sampleAck .nackField => s.readLevel .sda
          | _ => s.nack
        txnAddrNack := match op with
          | .sampleAck .txnAddr => s.readLevel .sda
          | _ => s.txnAddrNack
        txnDataNack := match op with
          | .sampleAck .txnData => s.readLevel .sda
          | _ => s.txnDataNack
        wait := match op with
          | .wait _ => 0
          | _ => s.wait
        trace := s.trace ++ [⟨op.act s.params, match op with
          | .sampleAck _ => some (s.readLevel .sda)
          | _ => none⟩] } := by
  cases op with
  | sampleAck d => cases d <;> rfl
  | _ => rfl

@[simp] theorem perform_addr (op : MicroOp) (s : State) : (perform op s).addr = s.addr := by rw [perform_fields]
@[simp] theorem perform_errIllegal (op : MicroOp) (s : State) : (perform op s).errIllegal = s.errIllegal := by
  rw [perform_fields]
@[simp] theorem perform_errBusy (op : MicroOp) (s : State) : (perform op s).errBusy = s.errBusy := by
  rw [perform_fields]
@[simp] theorem perform_prog (op : MicroOp) (s : State) : (perform op s).prog = s.prog := by rw [perform_fields]
@[simp] theorem perform_pc (op : MicroOp) (s : State) : (perform op s).pc = s.pc := by rw [perform_fields]
@[simp] theorem perform_extLow (op : MicroOp) (s : State) : (perform op s).extLow = s.extLow := by
  rw [perform_fields]
@[simp] theorem perform_rst (op : MicroOp) (s : State) : (perform op s).rst = s.rst := by rw [perform_fields]
@[simp] theorem perform_rdata (op : MicroOp) (s : State) : (perform op s).rdata = s.rdata := by rw [perform_fields]
@[simp] theorem perform_host (op : MicroOp) (s : State) : (perform op s).host = s.host := by rw [perform_fields]
@[simp] theorem perform_turns (op : MicroOp) (s : State) : (perform op s).turns = s.turns := by rw [perform_fields]
@[simp] theorem perform_ticks (op : MicroOp) (s : State) : (perform op s).ticks = s.ticks := by rw [perform_fields]
@[simp] theorem perform_accepted (op : MicroOp) (s : State) : (perform op s).accepted = s.accepted := by
  rw [perform_fields]
@[simp] theorem perform_moment (op : MicroOp) (s : State) : (perform op s).moment = s.moment := by
  rw [perform_fields]
@[simp] theorem perform_params (op : MicroOp) (s : State) : (perform op s).params = s.params := by
  rw [perform_fields]

theorem perform_trace (op : MicroOp) (s : State) :
    ∃ r, (perform op s).trace = s.trace ++ [⟨op.act s.params, r⟩] := by
  rw [perform_fields]
  exact ⟨_, rfl⟩

/-- A micro-operation adds its one action to the pin trace (R108, R117). -/
@[simp] theorem perform_acts (op : MicroOp) (s : State) : (perform op s).acts = s.acts ++ [op.act s.params] := by
  obtain ⟨r, h⟩ := perform_trace op s
  simp [State.acts, h]

/-- The line a micro-operation leaves (R22). -/
theorem perform_line (op : MicroOp) (s : State) (l : Line) :
    (perform op s).line.get l = (lastDrive l [op]).getD (s.line.get l) := by
  cases op with
  | release k => cases k <;> cases l <;> rfl
  | driveLow k => cases k <;> cases l <;> rfl
  | clearLatch k => rfl
  | wait k => rfl
  | sampleAck d => cases d <;> rfl

/-! ### Errors and acceptance -/

theorem raiseError_illegal (s : State) : raiseError .illegal s = { s with errIllegal := true } := rfl
theorem raiseError_busy (s : State) : raiseError .busy s = { s with errBusy := true } := rfl

/-- Acceptance, by whether the block is busy (R55, R202). -/
theorem acceptCommand_busy {i : Instr} {p : List MicroOp} {s : State} (h : s.busy = true) :
    acceptCommand i p s = .next (raiseError .busy s) := by simp [acceptCommand, h]

theorem acceptCommand_idle {i : Instr} {p : List MicroOp} {s : State} (h : s.busy = false) :
    acceptCommand i p s = .next (s.load i p) := by simp [acceptCommand, h]

/-- Every arm of `exec` is the acceptance of its expansion (R72). -/
theorem exec_eq (i : Instr) (s : State) :
    exec i s = acceptCommand i (expand s.params.pReportTxnNack s.addr i) s := by
  cases i <;> rfl

/-- No command's expansion is INIT (R79: INIT has no command word). -/
theorem expand_ne_initSeq (report : Bool) (addr : Addr7) (i : Instr) : expand report addr i ≠ initSeq := by
  intro h
  cases i with
  | start => cases h
  | stop => cases h
  | rstart => cases h
  | wrb v => exact absurd (congrArg List.length h) (by change (53 : Nat) ≠ 4; decide)
  | wrdev d => exact absurd (congrArg List.length h) (by change (114 : Nat) ≠ 4; decide)

/-! ### Reset -/

@[simp] theorem applyReset_reset : applyReset State.reset = State.reset := rfl

/-- Reset is idempotent (R230: in every tick in which `rst` is 1). -/
@[simp] theorem applyReset_applyReset (s : State) : applyReset (applyReset s) = applyReset s := rfl

end Machine

end Sys2Proof
end

