-- ==== Sys2Proof/Laws/PerInstr.lean ====
section
/-! SUPPORT. A statement about every instruction as syntax, made constructor by constructor: its word is a legal command
word (R70, R73) of a well-formed instruction. -/

namespace Sys2Proof.Laws.LegalWord

/-- The instruction is well formed, its word's reserved field is zero and the word is legal (R70, R73). -/
def Statement (i : Instr) : Prop := i.wf = true ∧ rsvField (encode i) = 0#5 ∧ Legal (encode i) = true

theorem start : Statement .start := ⟨rfl, by decide, by decide⟩
theorem stop : Statement .stop := ⟨rfl, by decide, by decide⟩
theorem rstart : Statement .rstart := ⟨rfl, by decide, by decide⟩

theorem wrb (v : Byte) : Statement (.wrb v) := by
  revert v; unfold Statement; decide

theorem wrdev (d : Byte) : Statement (.wrdev d) := by
  revert d; unfold Statement; decide

end Sys2Proof.Laws.LegalWord
end

