-- ==== Sys2Proof/Laws/Step.lean ====
section
/-! SUPPORT. What a turn of each agent can do, said once: an inversion lemma for each of them, and for a step. -/

namespace Sys2Proof.Machine

/-! ### The sequencer -/

@[simp] theorem State.finishOp_addr (s : State) (op : MicroOp) : (s.finishOp op).addr = s.addr := by
  simp only [State.finishOp, State.advance]; split <;> simp
@[simp] theorem State.finishOp_errIllegal (s : State) (op : MicroOp) :
    (s.finishOp op).errIllegal = s.errIllegal := by
  simp only [State.finishOp, State.advance]; split <;> simp
@[simp] theorem State.finishOp_errBusy (s : State) (op : MicroOp) : (s.finishOp op).errBusy = s.errBusy := by
  simp only [State.finishOp, State.advance]; split <;> simp
@[simp] theorem State.finishOp_extLow (s : State) (op : MicroOp) : (s.finishOp op).extLow = s.extLow := by
  simp only [State.finishOp, State.advance]; split <;> simp
@[simp] theorem State.finishOp_rst (s : State) (op : MicroOp) : (s.finishOp op).rst = s.rst := by
  simp only [State.finishOp, State.advance]; split <;> simp
@[simp] theorem State.finishOp_rdata (s : State) (op : MicroOp) : (s.finishOp op).rdata = s.rdata := by
  simp only [State.finishOp, State.advance]; split <;> simp
@[simp] theorem State.finishOp_host (s : State) (op : MicroOp) : (s.finishOp op).host = s.host := by
  simp only [State.finishOp, State.advance]; split <;> simp
@[simp] theorem State.finishOp_turns (s : State) (op : MicroOp) : (s.finishOp op).turns = s.turns := by
  simp only [State.finishOp, State.advance]; split <;> simp
@[simp] theorem State.finishOp_accepted (s : State) (op : MicroOp) : (s.finishOp op).accepted = s.accepted := by
  simp only [State.finishOp, State.advance]; split <;> simp
@[simp] theorem State.finishOp_moment (s : State) (op : MicroOp) : (s.finishOp op).moment = s.moment := by
  simp only [State.finishOp, State.advance]; split <;> simp
@[simp] theorem State.finishOp_params (s : State) (op : MicroOp) : (s.finishOp op).params = s.params := by
  simp only [State.finishOp, State.advance]; split <;> simp
@[simp] theorem State.finishOp_ticks (s : State) (op : MicroOp) :
    (s.finishOp op).ticks = s.ticks + s.ticksLeft op := by
  simp only [State.finishOp, State.advance]; split <;> simp
@[simp] theorem State.finishOp_line (s : State) (op : MicroOp) : (s.finishOp op).line = (perform op s).line := by
  simp only [State.finishOp, State.advance]; split <;> simp
@[simp] theorem State.finishOp_padDir (s : State) (op : MicroOp) :
    (s.finishOp op).padDir = (perform op s).padDir := by
  simp only [State.finishOp, State.advance]; split <;> simp
@[simp] theorem State.finishOp_padLatch (s : State) (op : MicroOp) :
    (s.finishOp op).padLatch = (perform op s).padLatch := by
  simp only [State.finishOp, State.advance]; split <;> simp
@[simp] theorem State.finishOp_nack (s : State) (op : MicroOp) : (s.finishOp op).nack = (perform op s).nack := by
  simp only [State.finishOp, State.advance]; split <;> simp
@[simp] theorem State.finishOp_txnAddrNack (s : State) (op : MicroOp) :
    (s.finishOp op).txnAddrNack = (perform op s).txnAddrNack := by
  simp only [State.finishOp, State.advance]; split <;> simp
@[simp] theorem State.finishOp_txnDataNack (s : State) (op : MicroOp) :
    (s.finishOp op).txnDataNack = (perform op s).txnDataNack := by
  simp only [State.finishOp, State.advance]; split <;> simp
@[simp] theorem State.finishOp_wait (s : State) (op : MicroOp) : (s.finishOp op).wait = (perform op s).wait := by
  simp only [State.finishOp, State.advance]; split <;> simp
@[simp] theorem State.finishOp_trace (s : State) (op : MicroOp) :
    (s.finishOp op).trace = (perform op s).trace := by
  simp only [State.finishOp, State.advance]; split <;> simp
@[simp] theorem State.finishOp_acts (s : State) (op : MicroOp) :
    (s.finishOp op).acts = s.acts ++ [op.act s.params] := by
  rw [← perform_acts]; simp only [State.acts, State.finishOp_trace]
theorem State.finishOp_prog (s : State) (op : MicroOp) :
    (s.finishOp op).prog = if s.pc + 1 = s.prog.length then [] else s.prog := by
  simp only [State.finishOp, State.advance, State.passTicks_pc, State.passTicks_prog, perform_pc, perform_prog]
  split <;> simp
theorem State.finishOp_pc (s : State) (op : MicroOp) :
    (s.finishOp op).pc = if s.pc + 1 = s.prog.length then 0 else s.pc + 1 := by
  simp only [State.finishOp, State.advance, State.passTicks_pc, State.passTicks_prog, perform_pc, perform_prog]
  split <;> simp

/-- The sequencer's turn: reset values, or one micro-operation, or nothing (R28, R230). -/
theorem seqTurn_cases {s t : State} (h : seqTurn s = .next t) :
    (s.rst = true ∧ t = applyReset s) ∨ (s.rst = false ∧ s.prog = [] ∧ t = s) ∨
      (s.rst = false ∧ ∃ op, s.prog[s.pc]? = some op ∧ t = s.finishOp op) := by
  unfold seqTurn at h
  split at h
  · exact .inl ⟨‹_›, by simpa using h.symm⟩
  · split at h
    · unfold seqStep at h
      split at h
      · cases h
      · exact .inr (.inr ⟨by simpa using ‹¬s.rst = true›, _, ‹_›, by simpa using h.symm⟩)
    · exact .inr (.inl ⟨by simpa using ‹¬s.rst = true›, by simpa [State.busy] using ‹¬s.busy = true›,
        by simpa using h.symm⟩)

/-- The clock's turn: reset values, an idle tick, the end of a micro-operation, or a WAIT that goes on (R105, R230). -/
theorem clkTurn_cases {s t : State} (h : clkTurn s = .next t) :
    (s.rst = true ∧ t = (applyReset s).passTicks 1) ∨ (s.rst = false ∧ s.prog = [] ∧ t = s.passTicks 1) ∨
      (s.rst = false ∧ ∃ op, s.prog[s.pc]? = some op ∧ s.ticksLeft op ≤ 1 ∧ t = s.finishOp op) ∨
      (s.rst = false ∧ ∃ op, s.prog[s.pc]? = some op ∧ 1 < s.ticksLeft op ∧ t = s.waitTick op) := by
  unfold clkTurn at h
  split at h
  · exact .inl ⟨‹_›, by simpa using h.symm⟩
  · have hr : s.rst = false := by simpa using ‹¬s.rst = true›
    split at h
    · unfold clkStep at h
      split at h
      · cases h
      · split at h
        · exact .inr (.inr (.inl ⟨hr, _, ‹_›, ‹_›, by simpa using h.symm⟩))
        · exact .inr (.inr (.inr ⟨hr, _, ‹_›, by omega, by simpa using h.symm⟩))
    · exact .inr (.inl ⟨hr, by simpa [State.busy] using ‹¬s.busy = true›, by simpa using h.symm⟩)

/-! ### The host -/

/-- Every outcome of a CMD write (R55). -/
theorem writeCmd_cases (w : Word) (s : State) :
    (s.busy = true ∧ writeCmd w s = .next (raiseError .busy s)) ∨
      (s.busy = false ∧ (∃ r, decodeCmd w = .error r) ∧ writeCmd w s = .next (raiseError .illegal s)) ∨
      (s.busy = false ∧ ∃ i, decodeCmd w = .ok i ∧
        writeCmd w s = .next (s.load i (expand s.params.pReportTxnNack s.addr i))) := by
  unfold writeCmd
  cases hb : s.busy with
  | true => exact .inl ⟨rfl, by simp⟩
  | false =>
    cases hd : decodeCmd w with
    | error r => exact .inr (.inl ⟨rfl, ⟨r, rfl⟩, by simp⟩)
    | ok i => exact .inr (.inr ⟨rfl, i, rfl, by simp [exec_eq, acceptCommand_idle hb]⟩)

/-- Everything a register write can do (R54, R55, R56, R230). -/
theorem regWrite_cases {off : Offset} {v : Word} {s t : State} (h : regWrite off v s = .next t) :
    t = s ∨ (s.rst = false ∧ off = 0#2 ∧ s.busy = true ∧ t = raiseError .busy s) ∨
      (s.rst = false ∧ off = 0#2 ∧ s.busy = false ∧ (∃ r, decodeCmd v = .error r) ∧ t = raiseError .illegal s) ∨
      (s.rst = false ∧ off = 0#2 ∧ s.busy = false ∧ ∃ i, decodeCmd v = .ok i ∧
        t = s.load i (expand s.params.pReportTxnNack s.addr i)) ∨
      (s.rst = false ∧ off = 1#2 ∧ t = ackErrors v s) := by
  unfold regWrite at h
  split at h
  · exact .inl (by simpa using h.symm)
  · have hr : s.rst = false := by simpa using ‹¬s.rst = true›
    split at h
    · rcases writeCmd_cases v s with ⟨hb, hw⟩ | ⟨hb, hd, hw⟩ | ⟨hb, i, hd, hw⟩ <;> rw [hw] at h
      · exact .inr (.inl ⟨hr, ‹_›, hb, by simpa using h.symm⟩)
      · exact .inr (.inr (.inl ⟨hr, ‹_›, hb, hd, by simpa using h.symm⟩))
      · exact .inr (.inr (.inr (.inl ⟨hr, ‹_›, hb, i, hd, by simpa using h.symm⟩)))
    · split at h
      · exact .inr (.inr (.inr (.inr ⟨hr, ‹_›, by simpa using h.symm⟩)))
      · exact .inl (by simpa using h.symm)

/-- A register write always completes. -/
theorem regWrite_next (off : Offset) (v : Word) (s : State) : ∃ t, regWrite off v s = .next t := by
  unfold regWrite
  split
  · exact ⟨_, rfl⟩
  · split
    · rcases writeCmd_cases v s with ⟨_, hw⟩ | ⟨_, _, hw⟩ | ⟨_, _, _, hw⟩ <;> exact ⟨_, hw⟩
    · split <;> exact ⟨_, rfl⟩

/-- Everything the host's turn can do (R53 to R56, R78). -/
theorem hostTurn_cases {s t : State} (h : hostTurn s = .next t) :
    (s.host = [] ∧ t = s) ∨
      (∃ off rest, s.host = .read off :: rest ∧ t = { s with host := rest, rdata := regRead off s }) ∨
      (∃ rest, s.host = .waitIdle :: rest ∧
        t = { s with rdata := regRead 1#2 s, host := if (regRead 1#2 s).getLsbD 0 then s.host else rest }) ∨
      (∃ off v rest, s.host = .write off v :: rest ∧ regWrite off v { s with host := rest } = .next t) := by
  unfold hostTurn at h
  split at h
  · exact .inl ⟨‹_›, by simpa using h.symm⟩
  · exact .inr (.inl ⟨_, _, ‹_›, by simpa using h.symm⟩)
  · exact .inr (.inr (.inr ⟨_, _, _, ‹_›, h⟩))
  · exact .inr (.inr (.inl ⟨_, ‹_›, by simpa using h.symm⟩))

/-- The host's turn always completes: the block never refuses an access (R210). -/
theorem hostTurn_next (s : State) : ∃ t, hostTurn s = .next t := by
  unfold hostTurn
  split
  · exact ⟨_, rfl⟩
  · exact ⟨_, rfl⟩
  · exact regWrite_next _ _ _
  · exact ⟨_, rfl⟩

/-! ### A step -/

/-- A step is a turn: the next of the list, or the due agent's under a drawn environment. -/
theorem step_cons {s : State} {u : Turn} {ts : List Turn} (h : s.turns = u :: ts) :
    step s = takeTurn u s.nextMoment := by
  simp [step, stepState, h]

theorem step_nil {s : State} (h : s.turns = []) : step s = takeTurn s.dueAgent s.nextMoment.drawEnv := by
  simp [step, stepState, h]

/-- The turn a step takes, and the state it takes it in: it differs from `s` in the moment, the turns and the
environment only. -/
theorem step_turn (s : State) : ∃ u e, step s = takeTurn u { s.nextMoment with extLow := e } := by
  cases h : s.turns with
  | nil => exact ⟨_, _, step_nil h⟩
  | cons u ts => exact ⟨u, s.extLow, step_cons h⟩

/-- `n + 1` steps are one step and then `n`. -/
theorem core_run_succ (M : Host.Core) (n : Nat) (s : M.State) :
    M.run (n + 1) s =
      match M.step s with
      | .next t => M.run n t
      | .fault r => .fault r
      | .refused r => .refused r := by
  cases h : M.step s <;> simp [Host.Core.run, h]

/-- The same for the machine's own step. -/
theorem runSteps_succ (n : Nat) (s : State) :
    runSteps (n + 1) s =
      match step s with
      | .next t => runSteps n t
      | .fault r => .fault r
      | .refused r => .refused r := by
  unfold runSteps
  rw [core_run_succ Sys2Proof.core n s, show Sys2Proof.core.step s = step s from rfl]
  cases step s <;> rfl

/-- A run begins with a step that completes. -/
theorem runSteps_next {n : Nat} {s t : State} (h : step s = .next t) : runSteps (n + 1) s = runSteps n t := by
  rw [runSteps_succ, h]

@[simp] theorem runSteps_zero (s : State) : runSteps 0 s = .next s := rfl

end Sys2Proof.Machine
end

