-- ==== Sys2Proof/Tests/Slice0.lean ====
section
/-! SUPPORT. Tests. The expected values are written out from the rules and from 95_test_vectors.md, whose vector each test
names; the last part shows, for every obligation with hypotheses, a concrete state that meets them. -/

namespace Sys2Proof.Tests

open Sys2Proof Sys2Proof.Machine

/-! ### WellFormed: every check refuses an ill-formed term (R77) -/

theorem test_wrb_range : Stmt.wf (.wrb 255) = true ∧ Stmt.wf (.wrb 256) = false ∧ Stmt.wf (.wrb 0x1FF) = false := by
  decide
theorem test_wrdev_range : Stmt.wf (.wrdev 255) = true ∧ Stmt.wf (.wrdev 256) = false := by decide
theorem test_rd_range : Stmt.wf (.rd 3) = true ∧ Stmt.wf (.rd 4) = false := by decide
theorem test_wr_offset_range : Stmt.wf (.wr 3 0) = true ∧ Stmt.wf (.wr 4 0) = false := by decide
theorem test_wr_value_range : Stmt.wf (.wr 0 65535) = true ∧ Stmt.wf (.wr 0 65536) = false := by decide
theorem test_wrbw_range : Stmt.wf (.wrbw 255) = true ∧ Stmt.wf (.wrbw 256) = false := by decide
theorem test_send_range :
    Stmt.wf (.send 255 255) = true ∧ Stmt.wf (.send 256 0) = false ∧ Stmt.wf (.send 0 256) = false := by decide

/-! ### Decode: words written out bit by bit, `DATA RSV OP` (R72; 95_test_vectors.md section 2) -/

theorem test_decode_start : decodeCmd 0b00000000_00000_001#16 = .ok .start := by decide
theorem test_decode_start_ignores_data : decodeCmd 0b10101011_00000_001#16 = .ok .start := by decide
theorem test_decode_stop : decodeCmd 0b11111111_00000_010#16 = .ok .stop := by decide
theorem test_decode_rstart : decodeCmd 0b00000000_00000_011#16 = .ok .rstart := by decide
theorem test_decode_wrb : decodeCmd 0b10100101_00000_100#16 = .ok (.wrb 0xA5#8) := by decide
theorem test_decode_wrdev : decodeCmd 0b10000000_00000_101#16 = .ok (.wrdev 0x80#8) := by decide
theorem test_decode_reserved_op :
    decodeCmd 0b00000000_00000_000#16 = .error (.reservedOpcode 0b000#3) ∧
      decodeCmd 0b00000000_00000_110#16 = .error (.reservedOpcode 0b110#3) ∧
      decodeCmd 0b00000000_00000_111#16 = .error (.reservedOpcode 0b111#3) := by decide
theorem test_decode_reserved_bits :
    decodeCmd 0b00000000_00001_001#16 = .error (.reservedBits 0b00001#5) ∧
      decodeCmd 0b00000000_11110_100#16 = .error (.reservedBits 0b11110#5) ∧
      decodeCmd 0b11111111_11111_111#16 = .error (.reservedBits 0b11111#5) := by decide
theorem test_decode_table_word :
    decodeTableWord 16 0xAB05 = some (.wrdev 0xAB#8) ∧ decodeTableWord 16 0x00FC = none := by decide
theorem test_encode : encode .rstart = 0x0003#16 ∧ encode (.wrb 0x4E#8) = 0x4E04#16 := by decide

/-! ### Small states -/

/-- `P_ADDR = 0x27` and every delay 2, as 95_test_vectors.md assumes with T = 2. -/
def testParams (report : Bool) : Params :=
  { pAddr := 0x27#7, pDelay := ⟨2, 2, 2, 2, 2, 2, 2, 2, 2, 2, 2⟩, pReportTxnNack := report,
    pPinScl := 0, pPinSda := 1, pBase := 0 }

/-- The pad direction that goes with a line's state (R39). -/
def testDir : LineState → PadDir
  | .released => .input
  | .drivenLow => .output

/-- A state after INIT: these lines, these devices, this program at this index. -/
def testState (report : Bool) (line : PerLine LineState) (ext : PerLine Bool) (prog : List MicroOp) (pc : Nat) : State :=
  { line := line, addr := 0x27#7, nack := false, errIllegal := false, errBusy := false, txnAddrNack := false,
    txnDataNack := false, prog := prog, pc := pc, wait := 0, padDir := ⟨testDir line.scl, testDir line.sda⟩,
    padLatch := ⟨.low, .low⟩, extLow := ext, rst := false, rdata := 0, host := [], turns := [], trace := [], ticks := 0,
    accepted := [], moment := 0, params := testParams report }

abbrev rr : PerLine LineState := ⟨.released, .released⟩
abbrev dd : PerLine LineState := ⟨.drivenLow, .drivenLow⟩
abbrev dr : PerLine LineState := ⟨.drivenLow, .released⟩
abbrev rd : PerLine LineState := ⟨.released, .drivenLow⟩
abbrev quiet : PerLine Bool := ⟨false, false⟩
abbrev holdsSda : PerLine Bool := ⟨false, true⟩

/-- "Idle" (95_test_vectors.md, conventions). -/
abbrev idle : State := testState false rr quiet [] 0

/-- A quantity of the next state, if there is one. -/
def view {α : Type} (f : State → α) : Host.Outcome State Fault Refusal → Option α
  | .next t => some (f t)
  | .fault _ => none
  | .refused _ => none

/-! ### The commands -/

/-- R130, written out; and the observer's note of the command. -/
theorem test_start_loads :
    view (fun t => (t.prog, t.pc, t.accepted)) (exec .start idle) =
      some ([.driveLow .sda, .wait .start1, .driveLow .scl, .wait .start2], 0, [.start]) := by decide

/-- V3.1: a START condition at START_SEQ[0] from idle. V3.11: none when a device holds SDA. -/
theorem test_start_condition :
    view (startCondition (testState false rr quiet startSeq 0)) (takeTurn .seq (testState false rr quiet startSeq 0)) =
      some true ∧
    view (startCondition (testState false rr holdsSda startSeq 0))
      (takeTurn .seq (testState false rr holdsSda startSeq 0)) = some false := by decide

/-- R133, written out. -/
theorem test_stop_loads :
    view (fun t => (t.prog, t.pc)) (exec .stop idle) =
      some ([.release .scl, .wait .stop1, .release .sda, .wait .stop2], 0) := by decide

/-- V3.4: a STOP condition at STOP_SEQ[2] with SDA low. V3.5: none with SDA released. -/
theorem test_stop_condition :
    view (stopCondition (testState false rd quiet stopSeq 2)) (takeTurn .seq (testState false rd quiet stopSeq 2)) =
      some true ∧
    view (stopCondition (testState false rr quiet stopSeq 2)) (takeTurn .seq (testState false rr quiet stopSeq 2)) =
      some false := by decide

/-- R136, written out. -/
theorem test_rstart_loads :
    view (fun t => (t.prog, t.pc)) (exec .rstart idle) =
      some ([.release .scl, .wait .rstart1, .driveLow .sda, .wait .rstart2, .driveLow .scl, .wait .rstart3], 0) := by
  decide

/-- V3.8: RSTART_SEQ[0] presents 1 after WRB. V3.9: it presents 0 after START. -/
theorem test_rstart_presents :
    view (bitPresented (testState false dr quiet rstartSeq 0)) (takeTurn .seq (testState false dr quiet rstartSeq 0)) =
      some (some true) ∧
    view (bitPresented (testState false dd quiet rstartSeq 0)) (takeTurn .seq (testState false dd quiet rstartSeq 0)) =
      some (some false) := by decide

/-- The full trace of `WRB 0xA5` (section 4): the PUT_BITs at 0, 6, 12, 18, 24, 30, 36, 42 and the ACK cycle. -/
theorem test_wrb_loads :
    view (fun t => [0, 6, 12, 18, 24, 30, 36, 42, 48, 51, 52, 53].map (t.prog[·]?)) (exec (.wrb 0xA5#8) idle) =
      some [some (.release .sda), some (.driveLow .sda), some (.release .sda), some (.driveLow .sda),
        some (.driveLow .sda), some (.release .sda), some (.driveLow .sda), some (.release .sda),
        some (.release .sda), some (.sampleAck .nackField), some (.driveLow .scl), none] := by decide

/-- E4: at BYTE_SEQ[51] a device that holds SDA gives NACK = 0, none gives NACK = 1. -/
theorem test_wrb_sample :
    view (·.nack) (takeTurn .seq { testState false rr holdsSda (byteSeq 0xA5#8 .nackField) 51 with nack := true }) =
      some false ∧
    view (·.nack) (takeTurn .seq (testState false rr quiet (byteSeq 0xA5#8 .nackField) 51)) = some true := by decide

/-- E5: `WRDEV 0xAB` sends 0x4E, most significant bit first, then 0xAB. -/
theorem test_wrdev_loads :
    view (fun t => [4, 10, 16, 22, 28, 34, 40, 46, 57, 63].map (t.prog[·]?)) (exec (.wrdev 0xAB#8) idle) =
      some [some (.driveLow .sda), some (.release .sda), some (.driveLow .sda), some (.driveLow .sda),
        some (.release .sda), some (.release .sda), some (.release .sda), some (.driveLow .sda),
        some (.release .sda), some (.driveLow .sda)] := by decide

/-- V5.4 to V5.6: with P_REPORT_TXN_NACK the address sample is taken at 55 and the data sample at 108. -/
theorem test_wrdev_samples :
    view (fun t => (t.txnAddrNack, t.txnDataNack, t.nack))
      (takeTurn .seq (testState true rr quiet (txnSeq true 0x27#7 0xAB#8) 55)) = some (true, false, false) ∧
    view (fun t => (t.txnAddrNack, t.txnDataNack, t.nack))
      (takeTurn .seq (testState true rr quiet (txnSeq true 0x27#7 0xAB#8) 108)) = some (false, true, false) := by decide

/-! ### The sequencer and the pin port (section 6) -/

/-- V6.4 and V6.1: the requests and the wire. -/
theorem test_drive_and_release :
    (perform (.driveLow .sda) idle).trace = [⟨.setDir .sda .output, none⟩] ∧
      (perform (.driveLow .sda) idle).wire .sda = false ∧
      (perform (.release .scl) (testState false dd quiet [] 0)).wire .scl = true := by decide

/-- V6.2: a device that stretches the clock keeps SCL low. -/
theorem test_stretched_clock : (perform (.release .scl) (testState false dd ⟨true, false⟩ [] 0)).wire .scl = false := by
  decide

/-- V6.6: CLEAR_LATCH on an INPUT pad. -/
theorem test_clear_latch :
    (perform (.clearLatch .scl) { idle with padLatch := ⟨.high, .high⟩ }).padLatch = ⟨.low, .high⟩ ∧
      (perform (.clearLatch .scl) { idle with padLatch := ⟨.high, .high⟩ }).wire .scl = true := by decide

/-- V6.7 and V6.8: a WAIT of 0 takes no tick, a WAIT of 7 counts down from 7. -/
theorem test_wait_ticks :
    view (fun t => (t.pc, t.wait, t.ticks)) (takeTurn .clk
      { testState false rr quiet startSeq 1 with params := { testParams false with pDelay := ⟨0, 2, 2, 2, 2, 2, 2, 2, 2, 2, 2⟩ } }) =
      some (2, 0, 0) ∧
    view (fun t => (t.pc, t.wait, t.ticks)) (takeTurn .clk
      { testState false rr quiet startSeq 1 with params := { testParams false with pDelay := ⟨7, 2, 2, 2, 2, 2, 2, 2, 2, 2, 2⟩ } }) =
      some (1, 6, 1) := by decide

/-- R108: the signals of a request that it fixes, whatever the mode of the last two; a delay shows none. -/
theorem test_pin_signals (n : Nat) :
    (PinAct.setDir .sda .output).signals n = some ⟨true, 0b00#2, true, true⟩ ∧
      (∃ m, (PinAct.clearLow .scl).signals n = some ⟨true, 0b01#2, false, m⟩) ∧
      (∃ m, (PinAct.readLevel .sda).signals n = some ⟨true, 0b10#2, true, m⟩) ∧
      (PinAct.delay .start1 5).signals n = none := ⟨rfl, ⟨_, rfl⟩, ⟨_, rfl⟩, rfl⟩

/-! ### The register port (section 7) -/

/-- RD 0, RD 1, RD 2 and RD 3 while idle (V7.1 and its neighbours). -/
theorem test_reads :
    regRead 0#2 idle = 0x0000#16 ∧ regRead 1#2 idle = 0x00C0#16 ∧ regRead 2#2 idle = 0x0027#16 ∧
      regRead 3#2 idle = 0x0000#16 := by decide

/-- V7.7 and V7.10: an illegal word while idle, and while busy. -/
theorem test_illegal_words :
    view State.status (regWrite 0#2 0x0000#16 idle) = some 0x00C4#16 ∧
      view State.status (regWrite 0#2 0x0000#16 (testState false rr quiet stopSeq 0)) = some 0x00C9#16 := by decide

/-- V7.11 and V7.13: write-one-to-clear. -/
theorem test_status_writes :
    view State.status (regWrite 1#2 0x0004#16 { idle with errIllegal := true, errBusy := true }) = some 0x00C8#16 ∧
      view State.status (regWrite 1#2 0xFFFF#16 { idle with errIllegal := true, errBusy := true, nack := true }) =
        some 0x00C2#16 := by decide

/-- V7.5 and V7.6: ADDR and offset 3 ignore writes. -/
theorem test_ignored_writes :
    view id (regWrite 2#2 0x0055#16 idle) = some idle ∧ view id (regWrite 3#2 0xFFFF#16 idle) = some idle := by decide

/-! ### Reset (section 8) -/

/-- V8.1: STATUS during INIT. -/
theorem test_reset_status : regRead 1#2 State.reset = 0x00C1#16 := by decide

/-- V8.3 and V8.4: reset clears NACK and the errors, keeps the pads, and reads return 0 while it lasts. -/
theorem test_reset_while_idle :
    view (fun t => (t.nack, t.errIllegal, t.prog, regRead 1#2 t))
      (takeTurn (.reset true) { idle with nack := true, errIllegal := true }) =
      some (false, false, [.release .scl, .release .sda, .clearLatch .scl, .clearLatch .sda], 0x0000#16) := by decide

/-- V7.16: an accepted word is the very next step after reset, INIT being over. -/
theorem test_first_command :
    view (fun t => (t.prog, t.pc)) (step (State.reset.withFetchWord 16 0x0002)) = some (stopSeq, 0) := by decide

/-! ### Duration and protocol -/

/-- Section 9, the per-site example: WRB = 94 ticks. -/
theorem test_wrb_duration :
    ticksOf { testParams false with pDelay := ⟨0, 0, 0, 0, 0, 0, 0, 1, 4, 3, 2⟩ } (byteSeq 0xA5#8 .nackField) = 94 := by
  decide

/-- R43: the reading of the history. -/
theorem test_protocol :
    idle.protocol = .idle ∧ State.protocol { idle with accepted := [.start] } = .started ∧
      State.protocol { testState false rr quiet (byteSeq 0#8 .nackField) 47 with accepted := [.start, .wrb 0#8] } =
        .bit 7 ∧
      State.protocol { testState false rr quiet (byteSeq 0#8 .nackField) 48 with accepted := [.start, .wrb 0#8] } =
        .ackSample := by decide

/-- R43: a completed WRB leaves IDLE before the first START and after a STOP, and ACK_SAMPLE inside a transaction. -/
theorem test_protocol_after_byte :
    State.protocol { idle with accepted := [.wrb 0#8] } = .idle ∧
      State.protocol { idle with accepted := [.start, .stop, .wrb 0#8, .wrb 1#8] } = .idle ∧
      State.protocol { idle with accepted := [.wrdev 0#8, .wrb 0#8] } = .idle ∧
      State.protocol { idle with accepted := [.start, .wrb 0#8, .wrb 1#8] } = .ackSample := by decide

/-! ### The assembler (R77, R78; section 2) -/

theorem test_assemble_wrb :
    assembleText "wrb 0b10100101 ; a byte".toList = some [.write 0#2 0xA504#16] := by decide
theorem test_assemble_start : assembleText "start".toList = some [.write 0#2 0x0001#16] := by decide
theorem test_assemble_out_of_range :
    assembleText "WRB 256".toList = none ∧ assembleText "WRB 0x1FF".toList = none := by decide
theorem test_assemble_raw :
    assembleText "RD 1\nWR 1, 0x000C\nWRBW 171".toList =
      some [.read 1#2, .write 1#2 0x000C#16, .write 0#2 0xAB04#16, .waitIdle] := by decide

/-! ### The invariant in concrete states -/

/-- The pads of a test state follow its lines (R39). -/
theorem testState_emulation (report : Bool) (line : PerLine LineState) (ext : PerLine Bool) (prog : List MicroOp)
    (pc : Nat) : Emulation (testState report line ext prog pc) := by
  obtain ⟨c, d⟩ := line
  intro l
  cases l <;> cases c <;> cases d <;> simp [testState, testDir, PerLine.get]

/-- A test state in the middle of a command, its lines as the program left them, is a state of the invariant. -/
theorem testState_inv {report : Bool} {line : PerLine LineState} {ext : PerLine Bool} (i : Instr) {pc : Nat}
    (hpc : pc < (expand report 0x27#7 i).length)
    (hc : lastDrive .scl ((expand report 0x27#7 i).take pc) = none ∨
      lastDrive .scl ((expand report 0x27#7 i).take pc) = some line.scl)
    (hd : lastDrive .sda ((expand report 0x27#7 i).take pc) = none ∨
      lastDrive .sda ((expand report 0x27#7 i).take pc) = some line.sda) :
    Inv (testState report line ext (expand report 0x27#7 i) pc) where
  pcInRange _ := hpc
  idleRests h := by
    change expand report 0x27#7 i = [] at h
    rw [h] at hpc
    exact absurd hpc (Nat.not_lt_zero _)
  progKnown := .inr (.inr ⟨i, rfl⟩)
  waitBegun h := absurd rfl h
  addrFixed := rfl
  txnSilent _ := ⟨rfl, rfl⟩
  initProgress h := absurd h (expand_ne_initSeq report 0x27#7 i)
  emulation _ := testState_emulation _ _ _ _ _
  lineDriven l v h := by
    change lastDrive l ((expand report 0x27#7 i).take pc) = some v at h
    cases l
    · rcases hc with hc | hc <;> rw [hc] at h <;> cases h
      rfl
    · rcases hd with hd | hd <;> rw [hd] at h <;> cases h
      rfl
  heldInReset h := by cases h

/-- An idle test state is a state of the invariant. -/
theorem testIdle_inv (report : Bool) (line : PerLine LineState) (ext : PerLine Bool) :
    Inv (testState report line ext [] 0) where
  pcInRange h := absurd rfl h
  idleRests _ := ⟨rfl, rfl⟩
  progKnown := .inl rfl
  waitBegun h := absurd rfl h
  addrFixed := rfl
  txnSilent _ := ⟨rfl, rfl⟩
  initProgress h := by cases h
  emulation _ := testState_emulation _ _ _ _ _
  lineDriven l v h := by cases h
  heldInReset h := by cases h

/-- INIT's first step, both pads driving: SCL's latch as power-up left it, SDA's LOW. -/
abbrev initState (ext : PerLine Bool) (latch : PadLatch) : State :=
  { testState false rr ext initSeq 0 with padDir := ⟨.output, .output⟩, padLatch := ⟨latch, .low⟩ }

theorem initState_inv (ext : PerLine Bool) (latch : PadLatch) : Inv (initState ext latch) where
  pcInRange _ := Nat.zero_lt_succ 3
  idleRests h := by cases h
  progKnown := .inr (.inl rfl)
  waitBegun h := absurd rfl h
  addrFixed := rfl
  txnSilent _ := ⟨rfl, rfl⟩
  initProgress _ := ⟨fun l => by cases l <;> rfl, fun h => absurd h (by decide : ¬1 ≤ 0),
    fun h => absurd h (by decide : ¬2 ≤ 0), fun h => absurd h (by decide : ¬3 ≤ 0)⟩
  emulation h := absurd rfl h
  lineDriven l v h := by cases h
  heldInReset h := by cases h

/-- The turns and the host's accesses of a test state. -/
def withInputs (s : State) (turns : List Turn) (host : List HostOp) : State := { s with turns := turns, host := host }

abbrev startAt (line : PerLine LineState) (pc : Nat) : State := testState false line quiet startSeq pc
abbrev stopAt (line : PerLine LineState) (pc : Nat) : State := testState false line quiet stopSeq pc
abbrev rstartAt (line : PerLine LineState) (pc : Nat) : State := testState false line quiet rstartSeq pc
abbrev wrbAt (v : Byte) (line : PerLine LineState) (pc : Nat) : State :=
  testState false line quiet (byteSeq v .nackField) pc
abbrev wrdevAt (report : Bool) (line : PerLine LineState) (pc : Nat) : State :=
  testState report line quiet (txnSeq report 0x27#7 0xAB#8) pc

/-- The step completes, and this holds of the state it leaves. -/
def steps (s : State) (p : State → Bool) : Bool := view p (step s) = some true

/-- The turn completes, and this holds of the state it leaves. -/
def turns (u : Turn) (s : State) (p : State → Bool) : Bool := view p (takeTurn u s) = some true

/-! ### Witnesses: the hypotheses of each obligation met together, clause by clause -/

theorem wit_DecodeOfEncodeIsTheInstruction :
    Instr.wf (.wrb 0xFF#8) = true ∧ decodeCmd 0xFF02#16 = .ok .stop ∧ decodeCmd 0x0004#16 = .ok (.wrb 0x00#8) ∧
      decodeCmd 0xFF05#16 = .ok (.wrdev 0xFF#8) := by decide

theorem wit_EveryWordIsLegalOrRejected :
    0xAB01#16 &&& 0x00FF#16 = 0x0001#16 &&& 0x00FF#16 ∧ Legal 0xAB01#16 = true ∧ Legal 0x0000#16 = false ∧
      opField 0x0000#16 = 0b000#3 ∧ opField 0x0006#16 = 0b110#3 ∧ opField 0x0007#16 = 0b111#3 ∧
      rsvField 0x0009#16 ≠ 0#5 := by decide

theorem wit_FramingCommandsIgnoreData :
    ∀ op ∈ [opStart, opStop, opRstart], op = opStart ∨ op = opStop ∨ op = opRstart := by decide

theorem wit_ReadsReturnTheRegisters :
    idle.rst = false ∧ (withInputs idle [] [.read 0#2]).host = [.read 0#2] ∧
      (withInputs idle [] [.read 3#2]).host = [.read 3#2] := by decide

theorem wit_CmdWriteStartsOrRaises :
    (startAt rr 0).rst = false ∧ (startAt rr 0).busy = true ∧ idle.rst = false ∧ idle.busy = false ∧
      Legal 0x0006#16 = false ∧ Legal 0x0005#16 = true := by decide

theorem wit_StatusWriteClearsErrorBits :
    idle.rst = false ∧ (0x0004#16).getLsbD 2 = true ∧ (0x0004#16).getLsbD 3 = false ∧
      (0x0008#16).getLsbD 2 = false ∧ (0x0008#16).getLsbD 3 = true := by decide

theorem wit_WritesToAddrAndReservedAreIgnored : ∀ off ∈ [2#2, 3#2], off = 2#2 ∨ off = 3#2 := by decide

theorem wit_HostAccessFrame : (withInputs (startAt rr 0) [] [.write 0#2 0x0002#16]).busy = true := by decide

theorem wit_WaitIdlePolls :
    (withInputs idle [] [.waitIdle]).rst = false ∧ (withInputs idle [] [.waitIdle]).busy = false ∧
      (withInputs (startAt rr 0) [] [.waitIdle]).rst = false ∧ (withInputs (startAt rr 0) [] [.waitIdle]).busy = true ∧
      (withInputs idle [] [.waitIdle]).host = [.waitIdle] := by decide

/-- An error bit is cleared by the host, and by reset. -/
theorem wit_ErrorBitsAreSticky :
    steps (withInputs { idle with errIllegal := true } [.host] [.write 1#2 0x0004#16]) (fun t => !t.errIllegal) = true ∧
      steps (withInputs { idle with errBusy := true } [.host] [.write 1#2 0x0008#16]) (fun t => !t.errBusy) = true ∧
      steps (withInputs { idle with errIllegal := true, errBusy := true } [.reset true] [])
        (fun t => !t.errIllegal && !t.errBusy) = true := by decide

theorem wit_OnlyCmdWritesRaise :
    steps (withInputs idle [.host] [.write 0#2 0x0000#16]) (·.errIllegal) = true ∧
      steps (withInputs (startAt rr 0) [.host] [.write 0#2 0x0000#16]) (·.errBusy) = true := by decide

theorem wit_StepRunsTheDecodedCommand :
    (withInputs idle [.host] [.write 0#2 0xAB05#16]).turns = [.host] ∧
      (withInputs idle [.host] [.write 0#2 0xAB05#16]).host = [.write 0#2 0xAB05#16] ∧
      (withInputs idle [.host] [.write 0#2 0xAB05#16]).rst = false ∧
      decodeCmd 0xAB05#16 = .ok (.wrdev 0xAB#8) ∧ Instr.wf (.wrdev 0xAB#8) = true := by decide

/-- For the completion statements of the five commands. -/
theorem wit_FramingCommandsLoadTheirSequences : idle.busy = false := by decide
theorem wit_WrbLoadsTheByteSequence : idle.busy = false ∧ 0 < 8 ∧ 7 < 8 := by decide
theorem wit_WrdevLoadsTheTransaction : (testState true rr quiet [] 0).busy = false := by decide
theorem wit_CommandsWhileBusyAreDropped : (startAt rr 0).busy = true := by decide

theorem wit_LineMicroOpsEffect : Line.sda ≠ Line.scl ∧ Line.scl ≠ Line.sda := by decide

/-- The index at the last micro-operation, before it, and no program. -/
theorem wit_SequencerTurnRunsOneMicroOp :
    (startAt dd 3).rst = false ∧ (startAt dd 3).prog[3]? = some (.wait .start2) ∧ 3 + 1 = (startAt dd 3).prog.length ∧
      (startAt rr 0).prog[0]? = some (.driveLow .sda) ∧ 0 + 1 ≠ (startAt rr 0).prog.length ∧ idle.busy = false := by
  decide

theorem wit_SequencerTurnFrame : turns .seq (startAt rr 0) (fun _ => true) = true := by decide

/-- A WAIT of 2 ticks at its beginning, one with a tick left, and one of 0 ticks. -/
theorem wit_WaitCountsDownTickByTick :
    (startAt rd 1).rst = false ∧ (startAt rd 1).prog[1]? = some (.wait .start1) ∧
      ((startAt rd 1).wait = 0 ∧ (startAt rd 1).params.pDelay.at .start1 = 2) ∧
      ({ startAt rd 1 with wait := 1 }.wait = 1 ∧ (1 : Nat) ≠ 0) ∧
      ({ startAt rd 1 with params := { testParams false with pDelay := ⟨0, 0, 0, 0, 0, 0, 0, 0, 0, 0, 0⟩ } }.params.pDelay.at
        .start1 = 0) := by decide

theorem wit_MicroOpStepIsTheRunOfItsTicks :
    (startAt rd 1).rst = false ∧ (startAt rd 1).prog[1]? = some (.wait .start1) ∧
      (startAt rr 0).prog[0]? = some (.driveLow .sda) := by decide

/-- The four cases of the wire, and a state after INIT. -/
theorem wit_WireModel : (Inv idle ∧ idle.prog ≠ initSeq) ∧
    let high := { idle with padDir := ⟨.output, .output⟩, padLatch := ⟨.high, .high⟩, extLow := ⟨true, false⟩ }
    (high.padDir.get .scl = .output ∧ high.padLatch.get .scl = .high ∧ high.extLow.get .scl = true) ∧
      (high.padDir.get .sda = .output ∧ high.padLatch.get .sda = .high ∧ high.extLow.get .sda = false) ∧
      ((testState false dd quiet [] 0).padDir.get .scl = .output ∧
        (testState false dd quiet [] 0).padLatch.get .scl = .low) ∧
      idle.padDir.get .scl = .input := ⟨⟨testIdle_inv _ _ _, by decide⟩, by decide⟩

theorem wit_WireFollowsLine :
    Inv (testState false dr holdsSda [] 0) ∧ (testState false dr holdsSda [] 0).prog ≠ initSeq ∧
      (testState false dr holdsSda [] 0).line.get .scl = .drivenLow ∧
      (testState false dr holdsSda [] 0).extLow.get .sda = true ∧
      (Inv idle ∧ ¬(idle.line.get .sda = .drivenLow ∨ idle.extLow.get .sda = true)) ∧
      steps (withInputs { idle with padLatch := ⟨.high, .high⟩ } [.host] [])
        (fun t => decide (t.padLatch.get .scl = .high)) = true :=
  ⟨testIdle_inv .., by decide, by decide, by decide, ⟨testIdle_inv .., by decide⟩, by decide⟩

theorem wit_SampleIsWhatTheDeviceHolds :
    (expand true 0x27#7 (.wrdev 0xAB#8))[55]? = some (.sampleAck .txnAddr) ∧
      (expand false 0x27#7 (.wrb 0xAB#8))[51]? = some (.sampleAck .nackField) ∧
      Inv (wrbAt 0xAB#8 rr 51) ∧ (wrbAt 0xAB#8 rr 51).prog[51]? = some (.sampleAck .nackField) :=
  ⟨by decide, by decide, testState_inv (.wrb 0xAB#8) (by decide) (by decide) (by decide), by decide⟩

theorem wit_StartConditionFromBusIdleOnly :
    (Inv (startAt rr 0) ∧ turns .seq (startAt rr 0) (fun _ => true) = true) ∧
      (Inv (startAt rd 1) ∧ (startAt rd 1).line.sda = .drivenLow ∧ turns .seq (startAt rd 1) (fun _ => true) = true) ∧
      (Inv (startAt rd 2) ∧ turns .seq (startAt rd 2) (fun _ => true) = true) ∧
      (startAt rr 0).quietBus = true ∧ (startAt rr 0).rst = false :=
  ⟨⟨testState_inv .start (by decide) (by decide) (by decide), by decide⟩,
    ⟨testState_inv .start (by decide) (by decide) (by decide), by decide, by decide⟩,
    ⟨testState_inv .start (by decide) (by decide) (by decide), by decide⟩, by decide, by decide⟩

theorem wit_StopConditionNeedsSdaLow :
    (Inv (stopAt dd 0) ∧ turns .seq (stopAt dd 0) (fun _ => true) = true) ∧
      (Inv (stopAt rr 0) ∧ turns .seq (stopAt rr 0) (fun _ => true) = true) ∧
      (Inv (stopAt rd 2) ∧ turns .seq (stopAt rd 2) (stopCondition (stopAt rd 2)) = true) ∧
      (Inv (stopAt rr 2) ∧ turns .seq (stopAt rr 2) (fun _ => true) = true) ∧ (stopAt dd 0).quietBus = true :=
  ⟨⟨testState_inv .stop (by decide) (by decide) (by decide), by decide⟩,
    ⟨testState_inv .stop (by decide) (by decide) (by decide), by decide⟩,
    ⟨testState_inv .stop (by decide) (by decide) (by decide), by decide⟩,
    ⟨testState_inv .stop (by decide) (by decide) (by decide), by decide⟩, by decide⟩

theorem wit_RstartConditionNeedsSdaReleased :
    (Inv (rstartAt dr 0) ∧ turns .seq (rstartAt dr 0) (fun _ => true) = true) ∧
      (Inv (rstartAt rr 2) ∧ turns .seq (rstartAt rr 2) (startCondition (rstartAt rr 2)) = true) ∧
      (rstartAt dr 0).quietBus = true ∧ (rstartAt dr 0).rst = false :=
  ⟨⟨testState_inv .rstart (by decide) (by decide) (by decide), by decide⟩,
    ⟨testState_inv .rstart (by decide) (by decide) (by decide), by decide⟩, by decide, by decide⟩

theorem wit_WrbPresentsItsBitsMsbFirst :
    Emulation (testState false dd holdsSda [] 0) ∧ (testState false dd holdsSda [] 0).line.scl = .drivenLow ∧
      (testState false dd holdsSda [] 0).extLow.scl = false := ⟨testState_emulation _ _ _ _ _, by decide, by decide⟩

/-- The first and the last bit. -/
theorem wit_WrbRisingEdgePresentsTheBit :
    (Inv (wrbAt 0xA5#8 dr 2) ∧ (wrbAt 0xA5#8 dr 2).pc = 6 * 0 + 2 ∧
        turns .seq (wrbAt 0xA5#8 dr 2) (fun _ => true) = true) ∧
      (Inv (wrbAt 0xA5#8 dr 44) ∧ (wrbAt 0xA5#8 dr 44).pc = 6 * 7 + 2 ∧
        turns .seq (wrbAt 0xA5#8 dr 44) (fun _ => true) = true) ∧
      (wrbAt 0xA5#8 dr 2).line.scl = .drivenLow ∧ (wrbAt 0xA5#8 dr 2).extLow.scl = false :=
  ⟨⟨testState_inv (.wrb 0xA5#8) (by decide) (by decide) (by decide), by decide, by decide⟩,
    ⟨testState_inv (.wrb 0xA5#8) (by decide) (by decide) (by decide), by decide, by decide⟩,
    by decide, by decide⟩

theorem wit_WrbTogglesSclNineTimes :
    Emulation idle ∧ idle.line.scl = .released ∧ idle.extLow.scl = false :=
  ⟨testState_emulation _ _ _ _ _, by decide, by decide⟩

/-- SDA changes at the entry and at the RELEASE(SDA) of the ACK cycle. -/
theorem wit_WrbChangesSdaOnlyWhileSclLow :
    (Inv (wrbAt 0x7E#8 dr 0) ∧ (wrbAt 0x7E#8 dr 0).line.scl = .drivenLow ∧
        turns .seq (wrbAt 0x7E#8 dr 0) (fun t => t.wire .sda != (wrbAt 0x7E#8 dr 0).wire .sda) = true) ∧
      (Inv (wrbAt 0x7E#8 dd 48) ∧
        turns .seq (wrbAt 0x7E#8 dd 48) (fun t => t.wire .sda != (wrbAt 0x7E#8 dd 48).wire .sda) = true) :=
  ⟨⟨testState_inv (.wrb 0x7E#8) (by decide) (by decide) (by decide), by decide, by decide⟩,
    ⟨testState_inv (.wrb 0x7E#8) (by decide) (by decide) (by decide), by decide⟩⟩

theorem wit_WrdevPresentsAddressThenData :
    Emulation (wrdevAt true rr 0) ∧ (wrdevAt true rr 0).busIdle = true ∧
      (wrdevAt true rr 0).prog = txnSeq true 0x27#7 0xAB#8 ∧ (wrdevAt true rr 0).pc = 0 ∧
      (wrdevAt true rr 0).rst = false := ⟨testState_emulation _ _ _ _ _, by decide, rfl, rfl, rfl⟩

/-- The first micro-operation after START_SEQ, and STOP_SEQ's RELEASE(SDA). -/
theorem wit_WrdevMakesNoStopCondition :
    (Inv (wrdevAt false dd 4) ∧ turns .seq (wrdevAt false dd 4) (fun _ => true) = true) ∧
      (Inv (wrdevAt false rr 112) ∧ turns .seq (wrdevAt false rr 112) (fun _ => true) = true) ∧
      (wrdevAt false dd 4).quietBus = true ∧ (wrdevAt false dd 4).rst = false :=
  ⟨⟨testState_inv (.wrdev 0xAB#8) (by decide) (by decide) (by decide), by decide⟩,
    ⟨testState_inv (.wrdev 0xAB#8) (by decide) (by decide) (by decide), by decide⟩, by decide, by decide⟩

theorem wit_EveryInterleavingRunsTheExpansion :
    (startAt rr 0).rst = false ∧ (startAt rr 0).busy = true ∧ (startAt rr 0).pc = 0 ∧ (startAt rr 0).wait = 0 ∧
      (∀ t ∈ [Turn.host, .seq, .env holdsSda, .seq, .seq, .host, .seq, .host], t.wholeOps = true) ∧
      [Turn.host, .seq, .env holdsSda, .seq, .seq, .host, .seq, .host].count .seq = (startAt rr 0).prog.length := by
  decide

theorem wit_CommandsEndWithTheirLines : idle.rst = false ∧ idle.busy = false ∧ idle.wait = 0 := by decide

/-- The sample; NACK changed by it; NACK changed by reset. -/
theorem wit_NackIsTheLastWrbSample :
    (Inv (wrbAt 0x00#8 rr 51) ∧ (wrbAt 0x00#8 rr 51).rst = false ∧
        turns .seq (wrbAt 0x00#8 rr 51) (fun t => t.nack != (wrbAt 0x00#8 rr 51).nack) = true) ∧
      steps (withInputs { idle with nack := true } [.reset true] []) (fun t => !t.nack) = true :=
  ⟨⟨testState_inv (.wrb 0x00#8) (by decide) (by decide) (by decide), by decide, by decide⟩, by decide⟩

theorem wit_WrdevFlags :
    (Inv (wrdevAt true rr 55) ∧ turns .seq (wrdevAt true rr 55) (fun _ => true) = true ∧
        (wrdevAt true rr 55).params.pReportTxnNack = true) ∧
      (Inv (wrdevAt false rr 108) ∧ turns .seq (wrdevAt false rr 108) (fun _ => true) = true ∧
        (wrdevAt false rr 108).params.pReportTxnNack = false) :=
  ⟨⟨testState_inv (.wrdev 0xAB#8) (by decide) (by decide) (by decide), by decide, by decide⟩,
    ⟨testState_inv (.wrdev 0xAB#8) (by decide) (by decide) (by decide), by decide, by decide⟩⟩

theorem wit_ResetTakesTheBlock : { idle with rst := true }.rst = true := by decide

theorem wit_InitEndsReleasedWithLatchesLow : AtResetValues State.reset ∧ State.reset.rst = false :=
  ⟨⟨rfl, rfl, rfl, rfl, rfl, rfl, rfl, rfl, rfl, rfl⟩, rfl⟩

/-- A pad that drives SCL low, and one that drives it high while a device holds SDA (V8.5). -/
theorem wit_InitNeverPullsAWireLow :
    (Inv (initState quiet .low) ∧ (initState quiet .low).prog = initSeq ∧ (initState quiet .low).rst = false ∧
        ¬(initState quiet .low).contends .scl ∧ ¬(initState quiet .low).contends .sda ∧
        turns .seq (initState quiet .low) (·.wire .scl) = true) ∧
      (Inv (initState holdsSda .high) ∧ ¬(initState holdsSda .high).contends .scl ∧
        ¬(initState holdsSda .high).contends .sda ∧ (initState holdsSda .high).wire .scl = true ∧
        turns .seq (initState holdsSda .high) (·.wire .scl) = true) :=
  ⟨⟨initState_inv _ _, rfl, rfl, by decide, by decide, by decide⟩,
    ⟨initState_inv _ _, by decide, by decide, by decide, by decide⟩⟩

/-- Also for `NoStepStops`, `BusyReturnsToZero` and `ParametersNeverChange`. -/
theorem wit_EveryStepKeepsTheInvariant :
    Inv idle ∧ (view (fun _ => true) (step idle) = some true) ∧ idle.rst = false ∧ idle.turns = [] :=
  ⟨testIdle_inv .., by decide, rfl, rfl⟩

theorem wit_BusyReturnsToZero :
    Inv (wrdevAt true rr 0) ∧ (wrdevAt true rr 0).rst = false ∧ (wrdevAt true rr 0).turns = [] :=
  ⟨testState_inv (.wrdev 0xAB#8) (by decide) (by decide) (by decide), rfl, rfl⟩

/-- LINE changes by a RELEASE, by a DRIVE_LOW, and by reset. -/
theorem wit_OnlyLineMicroOpsChangeLine :
    steps (withInputs (stopAt dd 0) [.seq] []) (fun t => t.line.get .scl != .drivenLow) = true ∧
      steps (withInputs (startAt rr 0) [.clk] []) (fun t => t.line.get .sda != .released) = true ∧
      steps (withInputs (stopAt dd 0) [.reset true] []) (fun t => t.line.get .sda != .drivenLow) = true := by decide

theorem wit_OnlyRequestsChangeThePads :
    steps (withInputs (startAt rr 0) [.seq] []) (fun t => t.padDir.get .sda != .input) = true ∧
      steps (withInputs { testState false rr quiet initSeq 2 with padLatch := ⟨.high, .high⟩ } [.seq] [])
        (fun t => t.padLatch.get .scl != .high) = true := by decide

theorem wit_ExtLowOfSclAffectsNothing :
    turns .seq (wrbAt 0x00#8 rr 51) (fun _ => true) = true ∧
      turns .seq { idle with trace := [⟨.readLevel .scl, none⟩] }
        (fun t => t.acts.contains (PinAct.readLevel .scl)) = true := by decide

/-- Two environments that differ in SCL and in the moment, and give SDA the same level. -/
theorem wit_ReadLevelsDetermineTheRun :
    (wrbAt 0x00#8 rr 51).forgetEnv = { wrbAt 0x00#8 rr 51 with extLow := ⟨true, false⟩, moment := 9 }.forgetEnv ∧
      (wrbAt 0x00#8 rr 51).readLevel .sda =
        { wrbAt 0x00#8 rr 51 with extLow := ⟨true, false⟩, moment := 9 }.readLevel .sda ∧
      turns .seq (wrbAt 0x00#8 rr 51) (fun _ => true) = true := ⟨rfl, by decide, by decide⟩

theorem wit_AssemblerChecksImmediates : 255 < 256 ∧ 256 ≤ 256 := by decide

end Sys2Proof.Tests
end

section
/-! PROOF. What one sequencer turn answers, by whether the block is busy, and obligation O21 (R28). -/

namespace Sys2Proof.Machine

/-- BUSY is 1 when a micro-operation stands at `SEQ.pc` (R27). -/
theorem State.busy_of_getElem? {s : State} {op : MicroOp} (h : s.prog[s.pc]? = some op) : s.busy = true :=
  s.busy_eq_true.mpr (List.ne_nil_of_mem (List.mem_of_getElem? h))

/-! ### The sequencer's turn, forwards -/

theorem takeTurn_seq_of_idle {s : State} (hr : s.rst = false) (hb : s.busy = false) :
    takeTurn .seq s = .next s := by
  simp [takeTurn, seqTurn, hr, hb]

theorem takeTurn_seq_of_getElem? {s : State} {op : MicroOp} (hr : s.rst = false) (h : s.prog[s.pc]? = some op) :
    takeTurn .seq s = .next (s.finishOp op) := by
  simp [takeTurn, seqTurn, seqStep, hr, State.busy_of_getElem? h, h]

/-! ### The end of a micro-operation -/

theorem State.advance_frame (s : State) : s.advance = { s with prog := s.advance.prog, pc := s.advance.pc } := by
  unfold State.advance
  split <;> rfl

/-- Beside what the micro-operation does itself, its end changes SEQ and the tick count only (R28). -/
theorem State.finishOp_frame (s : State) (op : MicroOp) :
    s.finishOp op =
      { perform op s with
        prog := (s.finishOp op).prog, pc := (s.finishOp op).pc, ticks := (s.finishOp op).ticks } := by
  rw [State.finishOp_ticks, ← perform_ticks op s]
  exact State.advance_frame _

end Sys2Proof.Machine

namespace Sys2Proof

open Machine

/-- Settles O21: when BUSY the turn is `finishOp` of the micro-operation at `SEQ.pc`, whose index and program are the
two branches of `advance` (R28). -/
theorem sequencerTurnRunsOneMicroOp : Obligations.SequencerTurnRunsOneMicroOp := by
  intro s hr
  refine ⟨takeTurn_seq_of_idle hr, fun op hop => ⟨s.finishOp op, takeTurn_seq_of_getElem? hr hop, ?_, ?_, ?_⟩⟩
  · intro hlast
    simp [State.finishOp_prog, State.finishOp_pc, hlast]
  · intro hmore
    simp [State.finishOp_prog, State.finishOp_pc, hmore]
  · exact s.finishOp_frame op

end Sys2Proof
end

section
/-! PROOF. The register port at each offset while `rst` is 0: the bits of STATUS (R32), what a read returns (R53) and
what a STATUS write does (R56); obligations O5 and O7. -/

namespace Sys2Proof.Machine

/-! ### The bits of STATUS -/

/-- BUSY as the length of `SEQ.prog` (R27). -/
theorem State.busy_eq_decide (s : State) : s.busy = decide (0 < s.prog.length) := by
  cases h : s.prog <;> simp [State.busy, h]

theorem State.lineRel_eq_decide (s : State) (l : Line) : s.lineRel l = decide (s.line.get l = .released) :=
  LineState.level_eq_decide _

/-- Bit `k` of STATUS is the `k`-th of its eight flags; the upper byte is zero (R32). -/
theorem State.status_getLsbD (s : State) (k : Nat) :
    s.status.getLsbD k =
      ([s.busy, s.nack, s.errIllegal, s.errBusy, s.txnAddrNack, s.txnDataNack, s.lineRel .scl,
        s.lineRel .sda][k]?).getD false := by
  have hconcat : s.status.getLsbD k =
      BitVec.getLsbD (((((((((0x00#8).concat (s.lineRel .sda)).concat (s.lineRel .scl)).concat s.txnDataNack).concat
        s.txnAddrNack).concat s.errBusy).concat s.errIllegal).concat s.nack).concat s.busy) k := rfl
  rw [hconcat]
  match k with
  | 0 | 1 | 2 | 3 | 4 | 5 | 6 | 7 => simp only [BitVec.getLsbD_concat_succ, BitVec.getLsbD_concat_zero]; rfl
  | k + 8 => simp [BitVec.getLsbD_concat_succ]

/-! ### Reads -/

@[simp] theorem regRead_cmd (s : State) : regRead 0#2 s = 0x0000#16 := by simp [regRead]

@[simp] theorem regRead_reserved (s : State) : regRead 3#2 s = 0x0000#16 := by simp [regRead]

theorem regRead_status {s : State} (hr : s.rst = false) : regRead 1#2 s = s.status := by simp [regRead, hr]

theorem regRead_addr {s : State} (hr : s.rst = false) : regRead 2#2 s = s.addr.setWidth 16 := by simp [regRead, hr]

/-- ADDR reads zero-extended: no bit of the seven is lost in the 16 (R53). -/
theorem regRead_addr_getLsbD {s : State} (hr : s.rst = false) (k : Nat) :
    (regRead 2#2 s).getLsbD k = s.addr.getLsbD k := by
  rw [regRead_addr hr, BitVec.getLsbD_setWidth, Bool.and_eq_right_iff_imp, decide_eq_true_eq]
  intro hset
  have hk : k < 7 := BitVec.lt_of_getLsbD hset
  omega

/-- The host's turn at a read: the access is used up and its value is what the host sees (R53). -/
theorem takeTurn_host_of_read {s : State} {off : Offset} {rest : List HostOp} (h : s.host = .read off :: rest) :
    takeTurn .host s = .next { s with host := rest, rdata := regRead off s } := by
  simp [takeTurn, hostTurn, h]

/-! ### The STATUS write -/

theorem regWrite_status {s : State} (hr : s.rst = false) (v : Word) :
    regWrite 1#2 v s = .next (ackErrors v s) := by simp [regWrite, hr]

theorem ackErrors_errIllegal (v : Word) (s : State) :
    (ackErrors v s).errIllegal = (s.errIllegal && !v.getLsbD 2) := rfl

theorem ackErrors_errBusy (v : Word) (s : State) : (ackErrors v s).errBusy = (s.errBusy && !v.getLsbD 3) := rfl

end Sys2Proof.Machine

namespace Sys2Proof

open Machine

/-- Settles O5: the reads of the four offsets, STATUS bit by bit, and the host's turn at a read (R53). -/
theorem readsReturnTheRegisters : Obligations.ReadsReturnTheRegisters := by
  intro s hr
  have bit (k : Nat) := (congrArg (BitVec.getLsbD · k) (regRead_status hr)).trans (s.status_getLsbD k)
  refine ⟨regRead_cmd s, regRead_reserved s, regRead_addr_getLsbD hr, (bit 0).trans s.busy_eq_decide, bit 1, bit 2,
    bit 3, bit 4, bit 5, (bit 6).trans (s.lineRel_eq_decide .scl), (bit 7).trans (s.lineRel_eq_decide .sda),
    fun k hk => ?_, fun _ _ => takeTurn_host_of_read⟩
  rw [bit k, List.getElem?_eq_none hk, Option.getD_none]

/-- Settles O7: the write is `ackErrors`, whose two bits are each cleared or kept by one bit of the written value
(R56). -/
theorem statusWriteClearsErrorBits : Obligations.StatusWriteClearsErrorBits := by
  intro s v hr
  refine ⟨ackErrors v s, regWrite_status hr v, ?_, ?_, ?_, ?_, rfl⟩
  · intro h2
    rw [ackErrors_errIllegal, h2, Bool.not_true, Bool.and_false]
  · intro h2
    rw [ackErrors_errIllegal, h2, Bool.not_false, Bool.and_true]
  · intro h3
    rw [ackErrors_errBusy, h3, Bool.not_true, Bool.and_false]
  · intro h3
    rw [ackErrors_errBusy, h3, Bool.not_false, Bool.and_true]

end Sys2Proof
end

section
/-! PROOF. The decoder branch by branch (R72, R74), `Legal` as a fact about two fields of the word (R73), and
obligations O3 (R76) and O4 (R75). -/

namespace Sys2Proof

/-! ### The fields of a word -/

/-- OP lies in `w[7:0]` (R70). -/
theorem opField_and_lowByte (w : Word) : opField (w &&& 0x00FF#16) = opField w := by
  have hmask : (0x00FF#16).extractLsb' 0 3 = BitVec.allOnes 3 := by decide
  rw [opField, opField, BitVec.extractLsb'_and, hmask, BitVec.and_allOnes]

/-- RSV lies in `w[7:0]` (R70). -/
theorem rsvField_and_lowByte (w : Word) : rsvField (w &&& 0x00FF#16) = rsvField w := by
  have hmask : (0x00FF#16).extractLsb' 3 5 = BitVec.allOnes 5 := by decide
  rw [rsvField, rsvField, BitVec.extractLsb'_and, hmask, BitVec.and_allOnes]

@[simp] theorem opField_cmdWord (d : Byte) (op : BitVec 3) : opField (cmdWord d op) = op :=
  BitVec.extractLsb'_append_eq_right

@[simp] theorem rsvField_cmdWord (d : Byte) (op : BitVec 3) : rsvField (cmdWord d op) = 0#5 := by
  rw [rsvField, cmdWord, BitVec.extractLsb'_append_eq_of_le (by decide)]
  exact BitVec.extractLsb'_append_eq_right

/-! ### The decoder, branch by branch -/

theorem decodeCmd_of_rsvField_ne {w : Word} (hr : rsvField w ≠ 0#5) :
    decodeCmd w = .error (.reservedBits (rsvField w)) := by
  simp [decodeCmd, hr]

section
variable {w : Word} (hr : rsvField w = 0#5)
include hr

theorem decodeCmd_of_opStart (ho : opField w = opStart) : decodeCmd w = .ok .start := by
  simp [decodeCmd, hr, ho]

theorem decodeCmd_of_opStop (ho : opField w = opStop) : decodeCmd w = .ok .stop := by
  simp [decodeCmd, hr, ho, opStop, opStart]

theorem decodeCmd_of_opRstart (ho : opField w = opRstart) : decodeCmd w = .ok .rstart := by
  simp [decodeCmd, hr, ho, opRstart, opStop, opStart]

theorem decodeCmd_of_opWrb (ho : opField w = opWrb) : decodeCmd w = .ok (.wrb (dataField w)) := by
  simp [decodeCmd, hr, ho, opWrb, opRstart, opStop, opStart]

theorem decodeCmd_of_opWrdev (ho : opField w = opWrdev) : decodeCmd w = .ok (.wrdev (dataField w)) := by
  simp [decodeCmd, hr, ho, opWrdev, opWrb, opRstart, opStop, opStart]

theorem decodeCmd_of_reservedOp (ho : opField w = 0b000#3 ∨ opField w = 0b110#3 ∨ opField w = 0b111#3) :
    decodeCmd w = .error (.reservedOpcode (opField w)) := by
  rcases ho with ho | ho | ho <;> simp [decodeCmd, hr, ho, opWrdev, opWrb, opRstart, opStop, opStart]

end

/-! ### `Legal` -/

theorem legal_eq_true_iff (w : Word) :
    Legal w = true ↔ rsvField w = 0#5 ∧ (opField w = opStart ∨ opField w = opStop ∨ opField w = opRstart ∨
      opField w = opWrb ∨ opField w = opWrdev) := by
  simp [Legal, or_assoc]

/-- The three reserved values are what the opcode map leaves out of the eight (R72, R74). -/
theorem not_commandOp_iff_reserved (op : BitVec 3) :
    ¬(op = opStart ∨ op = opStop ∨ op = opRstart ∨ op = opWrb ∨ op = opWrdev) ↔
      op = 0b000#3 ∨ op = 0b110#3 ∨ op = 0b111#3 := by
  revert op
  decide

theorem legal_eq_false_iff (w : Word) :
    Legal w = false ↔
      (opField w = 0b000#3 ∨ opField w = 0b110#3 ∨ opField w = 0b111#3) ∨ rsvField w ≠ 0#5 := by
  rw [← Bool.not_eq_true, legal_eq_true_iff, not_and_or, not_commandOp_iff_reserved, or_comm]

theorem exists_decodeCmd_of_legal {w : Word} (h : Legal w = true) : ∃ i, decodeCmd w = .ok i := by
  obtain ⟨hr, ho | ho | ho | ho | ho⟩ := (legal_eq_true_iff w).mp h
  · exact ⟨_, decodeCmd_of_opStart hr ho⟩
  · exact ⟨_, decodeCmd_of_opStop hr ho⟩
  · exact ⟨_, decodeCmd_of_opRstart hr ho⟩
  · exact ⟨_, decodeCmd_of_opWrb hr ho⟩
  · exact ⟨_, decodeCmd_of_opWrdev hr ho⟩

theorem exists_decodeCmd_error_of_not_legal {w : Word} (h : Legal w = false) : ∃ r, decodeCmd w = .error r := by
  by_cases hr : rsvField w = 0#5
  · have ho := ((legal_eq_false_iff w).mp h).resolve_right (not_not_intro hr)
    exact ⟨_, decodeCmd_of_reservedOp hr ho⟩
  · exact ⟨_, decodeCmd_of_rsvField_ne hr⟩

/-- The legal words are the decodable ones (R72, R73, R76). -/
theorem legal_iff_exists_decodeCmd (w : Word) : Legal w = true ↔ ∃ i, decodeCmd w = .ok i := by
  refine ⟨exists_decodeCmd_of_legal, fun ⟨i, hi⟩ => ?_⟩
  by_contra hl
  obtain ⟨r, he⟩ := exists_decodeCmd_error_of_not_legal (eq_false_of_ne_true hl)
  cases hi.symm.trans he

/-- `Legal` looks at `w[7:0]` only, because both fields it reads lie there (R73). -/
theorem legal_and_lowByte (w : Word) : Legal (w &&& 0x00FF#16) = Legal w := by
  rw [Legal, Legal, opField_and_lowByte, rsvField_and_lowByte]

/-- Settles O3: `Legal` is decodability, the reserved opcodes and RSV are its complement, and it factors through
`w[7:0]` (R76). -/
theorem everyWordIsLegalOrRejected : Obligations.EveryWordIsLegalOrRejected := by
  intro w w'
  refine ⟨legal_iff_exists_decodeCmd w, legal_eq_false_iff w, fun hlow => ?_⟩
  calc Legal w = Legal (w &&& 0x00FF#16) := (legal_and_lowByte w).symm
    _ = Legal (w' &&& 0x00FF#16) := by rw [hlow]
    _ = Legal w' := legal_and_lowByte w'

/-! ### DATA of the framing commands -/

/-- One command for every DATA (R75). -/
theorem exists_decodeCmd_cmdWord_of_framing {op : BitVec 3} (hop : op = opStart ∨ op = opStop ∨ op = opRstart) :
    ∃ i, ∀ d, decodeCmd (cmdWord d op) = .ok i := by
  have hr (d : Byte) := rsvField_cmdWord d op
  have ho (d : Byte) := opField_cmdWord d op
  rcases hop with h | h | h
  · exact ⟨_, fun d => decodeCmd_of_opStart (hr d) ((ho d).trans h)⟩
  · exact ⟨_, fun d => decodeCmd_of_opStop (hr d) ((ho d).trans h)⟩
  · exact ⟨_, fun d => decodeCmd_of_opRstart (hr d) ((ho d).trans h)⟩

namespace Machine

/-- A CMD write looks at nothing of the word but the command it decodes to (R55). -/
theorem regWrite_cmd_congr {v v' : Word} (h : decodeCmd v = decodeCmd v') (s : State) :
    regWrite 0#2 v s = regWrite 0#2 v' s := by
  simp [regWrite, writeCmd, h]

end Machine

/-- Settles O4: OP alone fixes a framing command, and the CMD write sees the decoded command only (R75). -/
theorem framingCommandsIgnoreData : Obligations.FramingCommandsIgnoreData := by
  intro d d' op s hop
  obtain ⟨i, hi⟩ := exists_decodeCmd_cmdWord_of_framing hop
  have hsame : decodeCmd (cmdWord d op) = decodeCmd (cmdWord d' op) := (hi d).trans (hi d').symm
  exact ⟨hsame, ⟨i, hi d⟩, Machine.regWrite_cmd_congr hsame s,
    decodeCmd_of_opStart (by decide) (by decide), decodeCmd_of_opStart (by decide) (by decide)⟩

end Sys2Proof
end

section
/-! PROOF. The output latches: no turn of any agent sets one HIGH (R110, R114), and obligation O27. -/

namespace Sys2Proof.Machine

/-- A micro-operation leaves each latch as it was or LOW (R103, R110). -/
theorem perform_padLatch (op : MicroOp) (s : State) (l : Line) :
    (perform op s).padLatch.get l = if op = .clearLatch l then .low else s.padLatch.get l := by
  cases op with
  | clearLatch k => simp [perform_clearLatch, PerLine.get_set, eq_comm]
  | sampleAck d => simp [perform_sampleAck]
  | release k => simp [perform_release]
  | driveLow k => simp [perform_driveLow]
  | wait site => simp [perform_wait]

/-- The host reaches no pad (R37). -/
theorem regWrite_padLatch {off : Offset} {v : Word} {s t : State} (h : regWrite off v s = .next t) :
    t.padLatch = s.padLatch := by
  obtain rfl | ⟨_, _, _, rfl⟩ | ⟨_, _, _, _, rfl⟩ | ⟨_, _, _, i, _, rfl⟩ | ⟨_, _, rfl⟩ := regWrite_cases h <;> rfl

theorem hostTurn_padLatch {s t : State} (h : hostTurn s = .next t) : t.padLatch = s.padLatch := by
  obtain ⟨_, rfl⟩ | ⟨_, _, _, rfl⟩ | ⟨_, _, rfl⟩ | ⟨off, v, rest, _, hw⟩ := hostTurn_cases h
  · rfl
  · rfl
  · rfl
  · exact (regWrite_padLatch hw :)

theorem resetTurn_padLatch (b : Bool) (s : State) : (resetTurn b s).padLatch = s.padLatch := by
  cases b <;> rfl

section
variable {s t : State} {l : Line}

theorem finishOp_padLatch_high {op : MicroOp} (h : (s.finishOp op).padLatch.get l = .high) :
    s.padLatch.get l = .high := by
  rw [State.finishOp_padLatch, perform_padLatch] at h
  split at h
  · cases h
  · exact h

theorem seqTurn_padLatch_high (h : seqTurn s = .next t) (ht : t.padLatch.get l = .high) :
    s.padLatch.get l = .high := by
  obtain ⟨_, rfl⟩ | ⟨_, _, rfl⟩ | ⟨_, op, _, rfl⟩ := seqTurn_cases h
  · exact ht
  · exact ht
  · exact finishOp_padLatch_high ht

theorem clkTurn_padLatch_high (h : clkTurn s = .next t) (ht : t.padLatch.get l = .high) :
    s.padLatch.get l = .high := by
  obtain ⟨_, rfl⟩ | ⟨_, _, rfl⟩ | ⟨_, op, _, _, rfl⟩ | ⟨_, op, _, _, rfl⟩ := clkTurn_cases h
  · exact ht
  · exact ht
  · exact finishOp_padLatch_high ht
  · exact ht

/-- No turn sets a latch HIGH (R110: CLEAR_LOW is the only request about a latch). -/
theorem takeTurn_padLatch_high {u : Turn} (h : takeTurn u s = .next t) (ht : t.padLatch.get l = .high) :
    s.padLatch.get l = .high := by
  cases u with
  | host => exact hostTurn_padLatch h ▸ ht
  | seq => exact seqTurn_padLatch_high h ht
  | clk => exact clkTurn_padLatch_high h ht
  | env e => cases h; exact ht
  | reset b => cases h; exact resetTurn_padLatch b s ▸ ht

theorem step_padLatch_high (h : step s = .next t) (ht : t.padLatch.get l = .high) : s.padLatch.get l = .high := by
  obtain ⟨u, e, hstep⟩ := step_turn s
  exact (takeTurn_padLatch_high (hstep.symm.trans h) ht :)

end

end Sys2Proof.Machine

namespace Sys2Proof

open Machine

/-- Settles O27: the wire is LINE's level and no device's hold under the emulation invariant, and every turn leaves a
latch as it was or LOW (R114). -/
theorem wireFollowsLine : Obligations.WireFollowsLine := by
  refine ⟨fun s l hinv hinit => ?_, fun s t l => step_padLatch_high⟩
  rw [(hinv.emulation hinit).wire l]
  cases hl : s.line.get l <;> simp [LineState.level]

end Sys2Proof
end

section
/-! PROOF. What stands before a sample in an expansion, what it leaves of SDA (R150, R170), and obligation O28 (R115). -/

namespace Sys2Proof.Machine

/-! ### The last command on a line -/

/-- What follows an operation has the last word on a line (R22). -/
theorem lastDrive_cons (l : Line) (op : MicroOp) (ops : List MicroOp) :
    lastDrive l (op :: ops) = (lastDrive l ops).or (lastDrive l [op]) := by
  rw [lastDrive.eq_def]
  dsimp only
  cases lastDrive l ops <;> rfl

theorem lastDrive_append (l : Line) (ops ops' : List MicroOp) :
    lastDrive l (ops ++ ops') = (lastDrive l ops').or (lastDrive l ops) := by
  induction ops with
  | nil => exact Option.or_none.symm
  | cons op ops ih => rw [List.cons_append, lastDrive_cons, ih, lastDrive_cons l op ops, Option.or_assoc]

/-! ### The preparation of a sample -/

/-- The three micro-operations that let go of SDA and raise SCL for a sample: the first three of the ACK cycle (R150). -/
def ackPrep : List MicroOp := [.release .sda, .wait .ackSetup, .release .scl]

theorem lastDrive_sda_ackPrep : lastDrive .sda ackPrep = some .released := rfl

/-- Every sample of a list comes directly after `ackPrep` (R115). -/
def SamplesPrepared (prog : List MicroOp) : Prop :=
  ∀ j d, prog[j]? = some (.sampleAck d) → ackPrep <:+ prog.take j

theorem samplesPrepared_of_no_sample {prog : List MicroOp} (h : ∀ d, .sampleAck d ∉ prog) : SamplesPrepared prog :=
  fun _ d hj => absurd (List.mem_of_getElem? hj) (h d)

theorem SamplesPrepared.append {ops ops' : List MicroOp} (h : SamplesPrepared ops) (h' : SamplesPrepared ops') :
    SamplesPrepared (ops ++ ops') := by
  intro j d hj
  rw [List.take_append]
  rcases Nat.lt_or_ge j ops.length with hlt | hge
  · rw [List.getElem?_append_left hlt] at hj
    rw [Nat.sub_eq_zero_of_le hlt.le, List.take_zero, List.append_nil]
    exact h j d hj
  · rw [List.getElem?_append_right hge] at hj
    exact (h' _ d hj).trans (List.suffix_append _ _)

/-- The same by index, as R115 says it. -/
theorem SamplesPrepared.getElem? {prog : List MicroOp} (h : SamplesPrepared prog) {j : Nat} {d : Dest}
    (hj : prog[j]? = some (.sampleAck d)) :
    3 ≤ j ∧ prog[j - 3]? = some (.release .sda) ∧ prog[j - 2]? = some (.wait .ackSetup) ∧
      prog[j - 1]? = some (.release .scl) := by
  obtain ⟨before, hbefore⟩ := h j d hj
  obtain ⟨hlt, -⟩ := List.getElem?_eq_some_iff.mp hj
  have hlen : j = before.length + 3 := by
    have := congrArg List.length hbefore
    simp only [List.length_append, List.length_take, ackPrep, List.length_cons, List.length_nil] at this
    omega
  have hprog : prog = before ++ (ackPrep ++ prog.drop j) := by
    rw [← List.append_assoc, hbefore, List.take_append_drop]
  subst hlen
  rw [hprog]
  simp [ackPrep]

/-! ### The samples of the expansions -/

theorem samplesPrepared_ackSeq (d : Dest) : SamplesPrepared (ackSeq d) := by
  intro j d' hj
  match j with
  | 3 => exact List.suffix_refl _
  | 0 | 1 | 2 | 4 => cases hj
  | j + 5 => cases hj

theorem sampleAck_notMem_bitSeq (d : Dest) (b : Bool) : .sampleAck d ∉ bitSeq b := by
  cases b <;> simp [bitSeq, putBit]

theorem samplesPrepared_byteSeq (v : Byte) (d : Dest) : SamplesPrepared (byteSeq v d) := by
  refine (samplesPrepared_of_no_sample fun d' hmem => ?_).append (samplesPrepared_ackSeq d)
  obtain ⟨ops, hops, hmem⟩ := List.mem_flatten.mp hmem
  obtain ⟨k, -, rfl⟩ := List.mem_map.mp hops
  exact sampleAck_notMem_bitSeq d' _ hmem

theorem samplesPrepared_startSeq : SamplesPrepared startSeq := samplesPrepared_of_no_sample (by simp [startSeq])

theorem samplesPrepared_stopSeq : SamplesPrepared stopSeq := samplesPrepared_of_no_sample (by simp [stopSeq])

theorem samplesPrepared_rstartSeq : SamplesPrepared rstartSeq := samplesPrepared_of_no_sample (by simp [rstartSeq])

theorem samplesPrepared_initSeq : SamplesPrepared initSeq := samplesPrepared_of_no_sample (by simp [initSeq])

theorem samplesPrepared_expand (report : Bool) (addr : Addr7) (i : Instr) :
    SamplesPrepared (expand report addr i) := by
  cases i with
  | start => exact samplesPrepared_startSeq
  | stop => exact samplesPrepared_stopSeq
  | rstart => exact samplesPrepared_rstartSeq
  | wrb v => exact samplesPrepared_byteSeq v _
  | wrdev d =>
    exact ((samplesPrepared_startSeq.append (samplesPrepared_byteSeq _ _)).append
      (samplesPrepared_byteSeq d _)).append samplesPrepared_stopSeq

theorem knownProg.samplesPrepared {p : Params} {addr : Addr7} {prog : List MicroOp} (h : knownProg p addr prog) :
    SamplesPrepared prog := by
  obtain rfl | rfl | ⟨i, rfl⟩ := h
  · exact samplesPrepared_of_no_sample (by simp)
  · exact samplesPrepared_initSeq
  · exact samplesPrepared_expand _ _ i

/-! ### The sample in a state of the invariant -/

/-- A RELEASED line reads as the devices leave it (R39, R111). -/
theorem Emulation.readLevel_of_released {s : State} (h : Emulation s) {l : Line} (hl : s.line.get l = .released) :
    s.readLevel l = !s.extLow.get l := by
  have hdir : s.padDir.get l ≠ .output := fun hout => by
    rw [(h l).2.mp hout] at hl
    cases hl
  rw [State.readLevel, if_neg hdir, h.wire l, hl, LineState.level, Bool.true_and]

section
variable {s : State} {d : Dest} (hinv : Inv s) (hd : s.prog[s.pc]? = some (.sampleAck d))
include hinv hd

/-- The preparation's RELEASE(SDA) is the last command on SDA (R115). -/
theorem Inv.sda_released_at_sample : s.line.get .sda = .released := by
  obtain ⟨before, hbefore⟩ := hinv.progKnown.samplesPrepared s.pc d hd
  refine hinv.lineDriven .sda .released ?_
  rw [← hbefore, lastDrive_append, lastDrive_sda_ackPrep, Option.some_or]

/-- INIT takes no sample (R231). -/
theorem Inv.emulation_at_sample : Emulation s :=
  hinv.emulation fun hinit => by
    have hmem := List.mem_of_getElem? hd
    simp [hinit, initSeq] at hmem

end

end Sys2Proof.Machine

namespace Sys2Proof

open Machine

/-- Settles O28: every expansion prepares its samples, so RELEASE(SDA) is the last command on SDA at a sample, and a
RELEASED line reads what the devices leave (R115). -/
theorem sampleIsWhatTheDeviceHolds : Obligations.SampleIsWhatTheDeviceHolds := by
  refine ⟨fun report addr i _ _ => (samplesPrepared_expand report addr i).getElem?, fun s d hinv hd => ?_⟩
  have hsda := hinv.sda_released_at_sample hd
  exact ⟨hsda, (hinv.emulation_at_sample hd).readLevel_of_released hsda⟩

end Sys2Proof
end

section
/-! PROOF. The wires over one micro-operation on a quiet bus (R114), which of them is a START condition (R116), and
obligation O29 (R131). -/

namespace Sys2Proof.Machine

/-! ### The emulation invariant over a micro-operation -/

/-- A request turns the pad the way its micro-operation sets LINE (R101, R102), and no latch rises (R110). -/
theorem Emulation.perform {s : State} (h : Emulation s) (op : MicroOp) : Emulation (perform op s) := by
  intro l
  obtain ⟨hlatch, hdir⟩ := h l
  refine ⟨by rw [perform_padLatch, hlatch, ite_self], ?_⟩
  cases op with
  | release k => by_cases hk : l = k <;> simp [perform_release, PerLine.get_set, hk, hdir]
  | driveLow k => by_cases hk : l = k <;> simp [perform_driveLow, PerLine.get_set, hk, hdir]
  | clearLatch k => exact hdir
  | wait site => exact hdir
  | sampleAck d => simpa [perform_sampleAck] using hdir

theorem Emulation.finishOp {s : State} (h : Emulation s) (op : MicroOp) : Emulation (s.finishOp op) := by
  simpa [Emulation] using h.perform op

theorem lastDrive_singleton_eq_drivenLow (l : Line) (op : MicroOp) :
    lastDrive l [op] = some .drivenLow ↔ op = .driveLow l := by
  cases op <;> simp [lastDrive]

/-! ### A quiet bus -/

theorem State.extLow_of_quietBus {s : State} (hq : s.quietBus = true) (l : Line) : s.extLow.get l = false := by
  obtain ⟨hscl, hsda⟩ : s.extLow.scl = false ∧ s.extLow.sda = false := by simpa [State.quietBus] using hq
  cases l with
  | scl => exact hscl
  | sda => exact hsda

section
variable {s : State} (h : Emulation s) (hq : s.quietBus = true)
include h hq

/-- LINE alone decides a wire that no device holds (R114). -/
theorem Emulation.wire_of_quietBus (l : Line) : s.wire l = (s.line.get l).level := by
  rw [h.wire, State.extLow_of_quietBus hq, Bool.not_false, Bool.and_true]

theorem Emulation.finishOp_wire_of_quietBus (op : MicroOp) (l : Line) :
    (s.finishOp op).wire l = ((lastDrive l [op]).getD (s.line.get l)).level := by
  have hq' : (s.finishOp op).quietBus = true := by simpa [State.quietBus] using hq
  rw [(h.finishOp op).wire_of_quietBus hq', State.finishOp_line, perform_line]

/-- A wire keeps its level over a micro-operation that commands nothing on it or what LINE already holds. -/
theorem Emulation.finishOp_wire_eq {op : MicroOp} {l : Line}
    (hl : (lastDrive l [op]).getD (s.line.get l) = s.line.get l) : (s.finishOp op).wire l = s.wire l := by
  rw [h.finishOp_wire_of_quietBus hq, hl, h.wire_of_quietBus hq]

/-- SDA can fall only by DRIVE_LOW(SDA), so a START condition is that from both lines RELEASED (R116). -/
theorem Emulation.startCondition_finishOp_iff (op : MicroOp) :
    startCondition s (s.finishOp op) = true ↔
      op = .driveLow .sda ∧ s.line.get .scl = .released ∧ s.line.get .sda = .released := by
  simp only [startCondition, h.wire_of_quietBus hq, h.finishOp_wire_of_quietBus hq, LineState.level_eq_decide,
    Bool.and_eq_true, Bool.not_eq_true', decide_eq_true_eq, decide_eq_false_iff_not]
  constructor
  · rintro ⟨⟨⟨hsda, hfall⟩, hscl⟩, -⟩
    refine ⟨(lastDrive_singleton_eq_drivenLow .sda op).mp ?_, hscl, hsda⟩
    cases hd : lastDrive .sda [op] with
    | none => simp [hd, hsda] at hfall
    | some v =>
      cases v with
      | released => simp [hd] at hfall
      | drivenLow => rfl
  · rintro ⟨rfl, hscl, hsda⟩
    simp [lastDrive, hscl, hsda]

end

/-! ### START's turn -/

/-- The sequencer's turn of a running expansion is its micro-operation at `SEQ.pc` (R28). -/
theorem exists_finishOp_of_takeTurn_seq {s t : State} (hr : s.rst = false) (hp : s.prog ≠ [])
    (h : takeTurn .seq s = .next t) : ∃ op, s.prog[s.pc]? = some op ∧ t = s.finishOp op := by
  obtain ⟨hrst, -⟩ | ⟨-, hidle, -⟩ | ⟨-, hop⟩ := seqTurn_cases h
  · cases hr.symm.trans hrst
  · exact absurd hidle hp
  · exact hop

/-- START_SEQ drives SDA low at its index 0 only (R130). -/
theorem startSeq_driveLow_sda_iff {k : Nat} {op : MicroOp} (h : startSeq[k]? = some op) :
    op = .driveLow .sda ↔ k = 0 := by
  match k with
  | 0 | 1 | 2 | 3 => cases h; decide
  | k + 4 => cases h

/-- Before its index 2 START_SEQ commands nothing but SDA low (R130). -/
theorem lastDrive_startSeq_of_lt_two {k : Nat} {op : MicroOp} (h : startSeq[k]? = some op) (hk : k < 2) (l : Line) :
    lastDrive l [op] = none ∨ l = .sda ∧ lastDrive l [op] = some .drivenLow := by
  match k, hk with
  | 0, _ =>
    cases h
    cases l with
    | scl => exact .inl rfl
    | sda => exact .inr ⟨rfl, rfl⟩
  | 1, _ => cases h; exact .inl rfl

end Sys2Proof.Machine

namespace Sys2Proof

open Machine

/-- Settles O29: a START condition is DRIVE_LOW(SDA) from both lines RELEASED, which START_SEQ holds at index 0 only;
before index 2 it commands nothing but SDA low, and index 2 is DRIVE_LOW(SCL) (R131). -/
theorem startConditionFromBusIdleOnly : Obligations.StartConditionFromBusIdleOnly := by
  intro s t hinv hprog hr hq hturn
  obtain ⟨op, hop, rfl⟩ := exists_finishOp_of_takeTurn_seq hr (by simp [hprog, startSeq]) hturn
  have hem : Emulation s := hinv.emulation (by rw [hprog]; decide)
  rw [hprog] at hop
  refine ⟨?_, fun hpc hsda l => ?_, fun hpc => ?_⟩
  · rw [hem.startCondition_finishOp_iff hq, startSeq_driveLow_sda_iff hop]
    rfl
  · refine hem.finishOp_wire_eq hq ?_
    obtain hnone | ⟨rfl, hlow⟩ := lastDrive_startSeq_of_lt_two hop hpc l
    · rw [hnone, Option.getD_none]
    · rw [hlow, Option.getD_some, PerLine.get_sda, hsda]
  · rw [hpc] at hop
    cases hop
    exact hem.finishOp_wire_of_quietBus hq _ .scl

end Sys2Proof
end

section
/-! PROOF. Where the samples of the expansions stand and go (R150, R170), what a turn can do to NACK, and obligation O41
(R151). -/

namespace Sys2Proof.Machine

/-! ### The sample that goes to NACK -/

/-- The eight data bits of a byte, the first 48 micro-operations of BYTE_SEQ (R150). -/
def dataBits (v : Byte) : List MicroOp := ([0, 1, 2, 3, 4, 5, 6, 7].map (fun k => bitSeq (wireBit v k))).flatten

theorem byteSeq_eq_dataBits_append (v : Byte) (d : Dest) : byteSeq v d = dataBits v ++ ackSeq d := rfl

theorem length_dataBits (v : Byte) : (dataBits v).length = 48 := rfl

theorem sampleAck_notMem_dataBits (v : Byte) (d : Dest) : .sampleAck d ∉ dataBits v := by
  intro hmem
  obtain ⟨ops, hops, hmem⟩ := List.mem_flatten.mp hmem
  obtain ⟨k, -, rfl⟩ := List.mem_map.mp hops
  exact sampleAck_notMem_bitSeq d _ hmem

theorem ackSeq_sampleAck_iff (d d' : Dest) (j : Nat) : (ackSeq d)[j]? = some (.sampleAck d') ↔ j = 3 ∧ d' = d := by
  match j with
  | 0 | 1 | 2 | 3 | 4 => simp [ackSeq, eq_comm]
  | j + 5 => simp [ackSeq]

/-- A byte's one sample stands at index 51 and goes where the byte says (R150, R156). -/
theorem byteSeq_sampleAck_iff (v : Byte) (d d' : Dest) (j : Nat) :
    (byteSeq v d)[j]? = some (.sampleAck d') ↔ j = 51 ∧ d' = d := by
  rw [byteSeq_eq_dataBits_append]
  rcases Nat.lt_or_ge j 48 with hlt | hge
  · rw [List.getElem?_append_left (length_dataBits v ▸ hlt)]
    constructor
    · exact fun hj => absurd (List.mem_of_getElem? hj) (sampleAck_notMem_dataBits v d')
    · rintro ⟨rfl, -⟩
      omega
  · rw [List.getElem?_append_right (length_dataBits v ▸ hge), length_dataBits, ackSeq_sampleAck_iff]
    exact and_congr_left fun _ => by omega

theorem dest_of_sampleAck_mem_byteSeq {v : Byte} {d d' : Dest} (h : .sampleAck d' ∈ byteSeq v d) : d' = d := by
  obtain ⟨j, hj⟩ := List.mem_iff_getElem?.mp h
  exact ((byteSeq_sampleAck_iff v d d' j).mp hj).2

/-- No sample of WRDEV goes to NACK (R170, R172). -/
theorem sampleAck_nackField_notMem_txnSeq (report : Bool) (addr : Addr7) (d : Byte) :
    .sampleAck .nackField ∉ txnSeq report addr d := by
  intro hmem
  simp only [txnSeq, List.mem_append] at hmem
  obtain ((hstart | haddr) | hdata) | hstop := hmem
  · simp [startSeq] at hstart
  · have := dest_of_sampleAck_mem_byteSeq haddr
    cases report <;> cases this
  · have := dest_of_sampleAck_mem_byteSeq hdata
    cases report <;> cases this
  · simp [stopSeq] at hstop

/-- Of all the expansions WRB's alone samples into NACK, at its index 51 (R151). -/
theorem knownProg.wrb_of_nack_sample {p : Params} {addr : Addr7} {prog : List MicroOp} (h : knownProg p addr prog)
    {j : Nat} (hj : prog[j]? = some (.sampleAck .nackField)) : ∃ v, prog = byteSeq v .nackField ∧ j = 51 := by
  have hmem := List.mem_of_getElem? hj
  obtain rfl | rfl | ⟨i, rfl⟩ := h
  · cases hmem
  · simp [initSeq] at hmem
  · cases i with
    | start => simp [expand, startSeq] at hmem
    | stop => simp [expand, stopSeq] at hmem
    | rstart => simp [expand, rstartSeq] at hmem
    | wrb v => exact ⟨v, rfl, ((byteSeq_sampleAck_iff v _ _ j).mp hj).1⟩
    | wrdev d => exact absurd hmem (sampleAck_nackField_notMem_txnSeq _ _ d)

/-! ### NACK over a turn -/

theorem perform_nack (op : MicroOp) (s : State) :
    (perform op s).nack = if op = .sampleAck .nackField then s.readLevel .sda else s.nack := by
  cases op with
  | sampleAck d => simp [perform_sampleAck]
  | release k => simp [perform_release]
  | driveLow k => simp [perform_driveLow]
  | clearLatch k => simp [perform_clearLatch]
  | wait site => simp [perform_wait]

/-- No register write reaches NACK (R54, R56). -/
theorem regWrite_nack {off : Offset} {v : Word} {s t : State} (h : regWrite off v s = .next t) : t.nack = s.nack := by
  obtain rfl | ⟨_, _, _, rfl⟩ | ⟨_, _, _, _, rfl⟩ | ⟨_, _, _, i, _, rfl⟩ | ⟨_, _, rfl⟩ := regWrite_cases h <;> rfl

theorem hostTurn_nack {s t : State} (h : hostTurn s = .next t) : t.nack = s.nack := by
  obtain ⟨_, rfl⟩ | ⟨_, _, _, rfl⟩ | ⟨_, _, rfl⟩ | ⟨off, v, rest, _, hw⟩ := hostTurn_cases h
  · rfl
  · rfl
  · rfl
  · exact (regWrite_nack hw :)

section
variable {s t : State}

theorem nack_sample_of_finishOp_nack_ne {op : MicroOp} (hop : s.prog[s.pc]? = some op)
    (hne : (s.finishOp op).nack ≠ s.nack) : s.prog[s.pc]? = some (.sampleAck .nackField) := by
  rw [State.finishOp_nack, perform_nack] at hne
  split at hne
  · next hsample => rw [hop, hsample]
  · exact absurd rfl hne

/-- A sequencer turn changes NACK by a sample that goes there, or under reset (R106, R230). -/
theorem seqTurn_nack_ne (h : seqTurn s = .next t) (hne : t.nack ≠ s.nack) :
    t.rst = true ∨ s.prog[s.pc]? = some (.sampleAck .nackField) := by
  obtain ⟨hr, rfl⟩ | ⟨_, _, rfl⟩ | ⟨_, op, hop, rfl⟩ := seqTurn_cases h
  · exact .inl hr
  · exact absurd rfl hne
  · exact .inr (nack_sample_of_finishOp_nack_ne hop hne)

theorem clkTurn_nack_ne (h : clkTurn s = .next t) (hne : t.nack ≠ s.nack) :
    t.rst = true ∨ s.prog[s.pc]? = some (.sampleAck .nackField) := by
  obtain ⟨hr, rfl⟩ | ⟨_, _, rfl⟩ | ⟨_, op, hop, _, rfl⟩ | ⟨_, _, _, _, rfl⟩ := clkTurn_cases h
  · exact .inl hr
  · exact absurd rfl hne
  · exact .inr (nack_sample_of_finishOp_nack_ne hop hne)
  · exact absurd rfl hne

theorem resetTurn_nack_ne {b : Bool} (hne : (resetTurn b s).nack ≠ s.nack) : (resetTurn b s).rst = true := by
  cases b with
  | false => exact absurd rfl hne
  | true => rfl

/-- Of all turns only a sample that goes to NACK and reset change it (R25, R151). -/
theorem takeTurn_nack_ne {u : Turn} (h : takeTurn u s = .next t) (hne : t.nack ≠ s.nack) :
    t.rst = true ∨ s.prog[s.pc]? = some (.sampleAck .nackField) := by
  cases u with
  | host => exact absurd (hostTurn_nack h) hne
  | seq => exact seqTurn_nack_ne h hne
  | clk => exact clkTurn_nack_ne h hne
  | env e => cases h; exact absurd rfl hne
  | reset b => cases h; exact .inl (resetTurn_nack_ne hne)

theorem step_nack_ne (h : step s = .next t) (hne : t.nack ≠ s.nack) :
    t.rst = true ∨ s.prog[s.pc]? = some (.sampleAck .nackField) := by
  obtain ⟨u, e, hstep⟩ := step_turn s
  exact (takeTurn_nack_ne (hstep.symm.trans h) hne :)

end

end Sys2Proof.Machine

namespace Sys2Proof

open Machine

/-- Settles O41: index 51 of a WRB samples into NACK what the devices leave of SDA (R115), and a turn that changes NACK
is at such a sample, which no other expansion has, or under reset (R151). -/
theorem nackIsTheLastWrbSample : Obligations.NackIsTheLastWrbSample := by
  refine ⟨fun s t v hinv hprog hpc hr hturn => ?_, fun s t hinv hstep hne => ?_⟩
  · have hop : s.prog[s.pc]? = some (.sampleAck .nackField) := by
      rw [hprog, byteSeq_sampleAck_iff]
      exact ⟨hpc, rfl⟩
    obtain ⟨-, hlevel⟩ := sampleIsWhatTheDeviceHolds.2 s _ hinv hop
    obtain rfl : s.finishOp _ = t := Host.Outcome.next.inj ((takeTurn_seq_of_getElem? hr hop).symm.trans hturn)
    exact ⟨by rw [State.finishOp_nack, perform_nack, if_pos rfl], hlevel⟩
  · exact (step_nack_ne hstep hne).imp_right hinv.progKnown.wrb_of_nack_sample

end Sys2Proof
end

section
/-! PROOF. The address byte (R171) and obligation O18; where the two samples of a WRDEV stand and go (R170), what a
micro-operation writes to the TXN flags, and obligation O42 (R172). -/

namespace Sys2Proof.Machine

/-! ### The address byte -/

theorem addrByte_eq_concat (a : Addr7) : addrByte a = a.concat false := rfl

theorem addrByte_eq_shiftLeft_or (a : Addr7) : addrByte a = a.setWidth 8 <<< 1 ||| 0x00#8 :=
  BitVec.setWidth_append_eq_shiftLeft_setWidth_or (b := a) (b' := 0b0#1) (w'' := 8)

theorem addrByte_toNat (a : Addr7) : (addrByte a).toNat = 2 * a.toNat := by
  rw [addrByte_eq_concat, BitVec.toNat_concat, Bool.toNat_false, Nat.add_zero, Nat.mul_comm]

theorem addrByte_toNat_le (a : Addr7) : (addrByte a).toNat ≤ 0xFE := by
  have hlt : a.toNat < 2 ^ 7 := a.isLt
  rw [addrByte_toNat]
  omega

/-! ### The samples of a transaction -/

theorem getElem?_append_eq_some_iff {ops ops' : List MicroOp} {j : Nat} {op : MicroOp} :
    (ops ++ ops')[j]? = some op ↔ ops[j]? = some op ∨ ops.length ≤ j ∧ ops'[j - ops.length]? = some op := by
  rcases Nat.lt_or_ge j ops.length with hlt | hge
  · simp [List.getElem?_append_left hlt, hlt.not_ge]
  · simp [List.getElem?_append_right hge, hge]

theorem length_startSeq : startSeq.length = 4 := rfl

theorem length_byteSeq (v : Byte) (d : Dest) : (byteSeq v d).length = 53 := rfl

theorem startSeq_getElem?_ne_sampleAck (j : Nat) (d : Dest) : startSeq[j]? ≠ some (.sampleAck d) := fun h => by
  simpa [startSeq] using List.mem_of_getElem? h

theorem stopSeq_getElem?_ne_sampleAck (j : Nat) (d : Dest) : stopSeq[j]? ≠ some (.sampleAck d) := fun h => by
  simpa [stopSeq] using List.mem_of_getElem? h

/-- A transaction's samples are those of its two bytes, behind START_SEQ's 4 micro-operations and the address byte's 53
(R170). -/
theorem txnSeq_sampleAck_iff (report : Bool) (addr : Addr7) (v : Byte) (d : Dest) (j : Nat) :
    (txnSeq report addr v)[j]? = some (.sampleAck d) ↔
      j = 55 ∧ d = (sampleDests report).1 ∨ j = 108 ∧ d = (sampleDests report).2 := by
  simp only [txnSeq, getElem?_append_eq_some_iff, startSeq_getElem?_ne_sampleAck, stopSeq_getElem?_ne_sampleAck,
    byteSeq_sampleAck_iff, List.length_append, length_startSeq, length_byteSeq, false_or, and_false, or_false,
    ← and_assoc]
  exact or_congr (and_congr_left fun _ => by omega) (and_congr_left fun _ => by omega)

/-! ### The TXN flags over a micro-operation -/

/-- Each TXN flag changes by a sample that goes to it, and by nothing else (R106). -/
theorem perform_txnFlags (op : MicroOp) (s : State) :
    (perform op s).txnAddrNack = (if op = .sampleAck .txnAddr then s.readLevel .sda else s.txnAddrNack) ∧
      (perform op s).txnDataNack = (if op = .sampleAck .txnData then s.readLevel .sda else s.txnDataNack) := by
  cases op with
  | sampleAck d => simp [perform_sampleAck]
  | release k => simp [perform_release]
  | driveLow k => simp [perform_driveLow]
  | clearLatch k => simp [perform_clearLatch]
  | wait site => simp [perform_wait]

/-- In a state of the invariant the level written is what the devices leave of SDA (R115). -/
theorem Inv.finishOp_txnFlags {s : State} {op : MicroOp} (hinv : Inv s) (hop : s.prog[s.pc]? = some op) :
    (s.finishOp op).txnAddrNack = (if op = .sampleAck .txnAddr then !s.extLow.sda else s.txnAddrNack) ∧
      (s.finishOp op).txnDataNack = (if op = .sampleAck .txnData then !s.extLow.sda else s.txnDataNack) := by
  have hlevel (d : Dest) (hd : op = .sampleAck d) : s.readLevel .sda = !s.extLow.sda :=
    (sampleIsWhatTheDeviceHolds.2 s d hinv (hd ▸ hop)).2
  obtain ⟨haddr, hdata⟩ := perform_txnFlags op s
  rw [State.finishOp_txnAddrNack, State.finishOp_txnDataNack, haddr, hdata]
  exact ⟨ite_congr rfl (hlevel _) fun _ => rfl, ite_congr rfl (hlevel _) fun _ => rfl⟩

end Sys2Proof.Machine

namespace Sys2Proof

open Machine

/-- Settles O18: the address byte is the address with the bit 0 appended, from which the shift, the doubling and the
bound follow (R171). -/
theorem addressByte : Obligations.AddressByte := by
  refine ⟨fun a => ⟨addrByte_eq_shiftLeft_or a, rfl, ?_, addrByte_toNat a, addrByte_toNat_le a⟩, ?_⟩
  · rw [addrByte_eq_concat, BitVec.getLsbD_concat_zero]
  · decide

/-- Settles O42: a WRDEV samples at 55 and 108 only, into the two destinations that P_REPORT_TXN_NACK selects, and a
flag changes by a sample that goes to it (R172). -/
theorem wrdevFlags : Obligations.WrdevFlags := by
  intro s t v hinv hprog hr hturn
  obtain ⟨op, hop, rfl⟩ := exists_finishOp_of_takeTurn_seq hr (by simp [hprog, txnSeq, startSeq]) hturn
  have hsample (d : Dest) : op = .sampleAck d ↔
      s.pc = 55 ∧ d = (sampleDests s.params.pReportTxnNack).1 ∨
        s.pc = 108 ∧ d = (sampleDests s.params.pReportTxnNack).2 := by
    rw [← txnSeq_sampleAck_iff _ s.addr v, ← hprog, hop, Option.some_inj]
  have hnack : op ≠ .sampleAck .nackField := by
    rintro rfl
    exact sampleAck_nackField_notMem_txnSeq _ _ _ (hprog ▸ List.mem_of_getElem? hop)
  obtain ⟨haddr, hdata⟩ := hinv.finishOp_txnFlags hop
  rw [haddr, hdata]
  refine ⟨by rw [State.finishOp_nack, perform_nack, if_neg hnack], fun hsilent => ?_, fun hreport => ?_⟩
  · simp [hsample, hsilent, sampleDests]
  · simp [hsample, hreport, sampleDests]

end Sys2Proof
end

section
/-! PROOF. INIT run by four sequencer turns (R231), the state it ends in, and obligation O45 (R232). -/

namespace Sys2Proof.Machine

/-! ### A step that is the sequencer's turn -/

/-- A step at a sequencer turn of a block out of reset is the micro-operation at `SEQ.pc` (R28). -/
theorem step_seq_of_getElem? {s : State} {ts : List Turn} {op : MicroOp} (hts : s.turns = .seq :: ts)
    (hr : s.rst = false) (hop : s.prog[s.pc]? = some op) : step s = .next (s.nextMoment.finishOp op) :=
  (step_cons hts).trans (takeTurn_seq_of_getElem? hr hop)

/-! ### The state in which INIT ends -/

/-- What INIT makes of a state with these turns left: lines, pads and SEQ do not depend on what they were, and nothing
else of the block changes (R231, R232). -/
def State.afterInit (s : State) (ts : List Turn) : State :=
  { s with
    line := ⟨.released, .released⟩, padDir := ⟨.input, .input⟩, padLatch := ⟨.low, .low⟩, prog := [], pc := 0
    turns := ts, ticks := s.ticks + 4, moment := s.moment + 4
    trace := s.trace ++ [⟨.setDir .scl .input, none⟩, ⟨.setDir .sda .input, none⟩, ⟨.clearLow .scl, none⟩,
      ⟨.clearLow .sda, none⟩] }

/-- INIT's four micro-operations, one in each turn (R231). -/
theorem runSteps_initSeq {s : State} (ts : List Turn) (hprog : s.prog = initSeq) (hpc : s.pc = 0)
    (hr : s.rst = false) :
    runSteps 4 (s.withTurns ([.seq, .seq, .seq, .seq] ++ ts)) = .next (s.afterInit ts) := by
  cases s
  cases hprog
  cases hpc
  cases hr
  rw [runSteps_next (step_seq_of_getElem? (op := .release .scl) rfl rfl rfl),
    runSteps_next (step_seq_of_getElem? (op := .release .sda) rfl rfl rfl),
    runSteps_next (step_seq_of_getElem? (op := .clearLatch .scl) rfl rfl rfl),
    runSteps_next (step_seq_of_getElem? (op := .clearLatch .sda) rfl rfl rfl), runSteps_zero]
  simp [State.finishOp, State.advance, State.passTicks, State.ticksLeft, State.nextMoment, State.withTurns,
    State.afterInit, perform_release, perform_clearLatch, PerLine.set]

theorem State.afterInit_acts (s : State) (ts : List Turn) :
    (s.afterInit ts).acts =
      s.acts ++ [.setDir .scl .input, .setDir .sda .input, .clearLow .scl, .clearLow .sda] := List.map_append

theorem State.afterInit_line (s : State) (ts : List Turn) (l : Line) : (s.afterInit ts).line.get l = .released := by
  cases l <;> rfl

/-- INIT establishes the emulation invariant whatever the pads held (R39). -/
theorem State.afterInit_emulation (s : State) (ts : List Turn) : Emulation (s.afterInit ts) := by
  intro l
  have hlow : (s.afterInit ts).padLatch.get l = .low := by cases l <;> rfl
  have hinput : (s.afterInit ts).padDir.get l = .input := by cases l <;> rfl
  simp [hlow, hinput, s.afterInit_line ts l]

/-- Under the emulation invariant RELEASED lines and a quiet bus make the bus idle (R114). -/
theorem Emulation.busIdle_of_released {s : State} (h : Emulation s) (hq : s.quietBus = true)
    (hl : ∀ l, s.line.get l = .released) : s.busIdle = true := by
  simp [State.busIdle, State.lineRel, h.wire_of_quietBus hq, hl, hq, LineState.level]

/-- INIT writes no flag, so the reset values of the flags show in STATUS beside the two RELEASED lines (R32, R232). -/
theorem AtResetValues.regRead_status_afterInit {s : State} (h : AtResetValues s) (hr : s.rst = false)
    (ts : List Turn) : regRead 1#2 (s.afterInit ts) = 0x00C0#16 := by
  obtain ⟨-, -, hnack, hillegal, hbusy, haddr, hdata, -⟩ := h
  rw [regRead_status (s := s.afterInit ts) hr]
  simp [State.status, State.lineRel, State.busy, LineState.level, State.afterInit, hnack, hillegal, hbusy,
    haddr, hdata]

end Sys2Proof.Machine

namespace Sys2Proof

open Machine

/-- Settles O45: the four turns end in `afterInit`, whose lines, pads and STATUS are those of R232. -/
theorem initEndsReleasedWithLatchesLow : Obligations.InitEndsReleasedWithLatchesLow := by
  intro s ts hreset hr
  have hstatus := hreset.regRead_status_afterInit hr ts
  obtain ⟨-, -, -, -, -, -, -, hprog, hpc, -⟩ := hreset
  have hem : Emulation (s.afterInit ts) := s.afterInit_emulation ts
  exact ⟨s.afterInit ts, runSteps_initSeq ts hprog hpc hr, rfl, rfl, rfl, hstatus, rfl, hem,
    fun hq => hem.busIdle_of_released hq (s.afterInit_line ts), s.afterInit_acts ts⟩

end Sys2Proof
end

section
/-! PROOF. The command word as its three fields (R70), what a decoded word shares with its instruction's encoding (R71,
R75), and obligations O1, O2 and O56 (R72, R77). -/

namespace Sys2Proof

/-! ### The word from its fields -/

@[simp] theorem dataField_cmdWord (d : Byte) (op : BitVec 3) : dataField (cmdWord d op) = d := by
  rw [dataField, cmdWord, BitVec.extractLsb'_append_eq_of_le (by decide),
    BitVec.extractLsb'_append_eq_of_le (by decide)]
  exact BitVec.extractLsb'_eq_self

/-- The three fields are the whole word (R70). -/
theorem cmdWord_of_rsvField {w : Word} (hr : rsvField w = 0#5) : cmdWord (dataField w) (opField w) = w := by
  rw [cmdWord, ← hr, dataField, rsvField, opField, BitVec.extractLsb'_append_extractLsb'_eq_extractLsb' (by decide),
    BitVec.extractLsb'_append_extractLsb'_eq_extractLsb' (by decide)]
  exact BitVec.extractLsb'_eq_self

/-- The bits that the opcode table fixes hold nothing of DATA (R70). -/
theorem cmdWord_and_lowByte (d d' : Byte) (op : BitVec 3) :
    cmdWord d op &&& 0x00FF#16 = cmdWord d' op &&& 0x00FF#16 := by
  have hmask : (0x00FF#16) = 0x00#8 ++ BitVec.allOnes 8 := by decide
  have hlow (d : Byte) : cmdWord d op = d ++ (0#5 ++ op) := by rw [cmdWord, BitVec.append_assoc]; rfl
  rw [hlow, hlow, hmask, BitVec.and_append, BitVec.and_append, BitVec.and_zero, BitVec.and_zero]

/-! ### Decoding and encoding -/

theorem decodeCmd_encode (i : Instr) : decodeCmd (encode i) = .ok i := by
  cases i with
  | start => exact decodeCmd_of_opStart (rsvField_cmdWord _ _) (opField_cmdWord _ _)
  | stop => exact decodeCmd_of_opStop (rsvField_cmdWord _ _) (opField_cmdWord _ _)
  | rstart => exact decodeCmd_of_opRstart (rsvField_cmdWord _ _) (opField_cmdWord _ _)
  | wrb v => rw [encode, decodeCmd_of_opWrb (rsvField_cmdWord _ _) (opField_cmdWord _ _), dataField_cmdWord]
  | wrdev d => rw [encode, decodeCmd_of_opWrdev (rsvField_cmdWord _ _) (opField_cmdWord _ _), dataField_cmdWord]

/-- The opcode table's numbering of bits is the word's own (R76). -/
theorem decodeTableWord_toNat (w : Word) : decodeTableWord 16 w.toNat = decodeWord w := by
  have hlt : w.toNat < 2 ^ 16 := w.isLt
  rw [decodeTableWord, Nat.mod_eq_of_lt hlt, if_pos hlt, BitVec.ofNat_toNat, BitVec.setWidth_eq]

theorem rsvField_of_decodeCmd {w : Word} {i : Instr} (h : decodeCmd w = .ok i) : rsvField w = 0#5 :=
  ((legal_eq_true_iff w).mp ((legal_iff_exists_decodeCmd w).mpr ⟨i, h⟩)).1

/-- A word and the encoding of what it decodes to differ in DATA only, and there only where DATA is no operand (R71,
R75). -/
theorem encode_of_decodeCmd {w : Word} {i : Instr} (h : decodeCmd w = .ok i) :
    ∃ d, encode i = cmdWord d (opField w) ∧ (∀ v, i = .wrb v ∨ i = .wrdev v → d = dataField w) := by
  obtain ⟨hr, ho | ho | ho | ho | ho⟩ := (legal_eq_true_iff w).mp ((legal_iff_exists_decodeCmd w).mpr ⟨i, h⟩)
  · cases (decodeCmd_of_opStart hr ho).symm.trans h
    exact ⟨0x00#8, by rw [encode, ho], by simp⟩
  · cases (decodeCmd_of_opStop hr ho).symm.trans h
    exact ⟨0x00#8, by rw [encode, ho], by simp⟩
  · cases (decodeCmd_of_opRstart hr ho).symm.trans h
    exact ⟨0x00#8, by rw [encode, ho], by simp⟩
  · cases (decodeCmd_of_opWrb hr ho).symm.trans h
    exact ⟨dataField w, by rw [encode, ho], fun _ _ => rfl⟩
  · cases (decodeCmd_of_opWrdev hr ho).symm.trans h
    exact ⟨dataField w, by rw [encode, ho], fun _ _ => rfl⟩

/-- Settles O2: the decoder's branches undo the encoder, and a decoded word is the encoding but for DATA where DATA is
ignored (R70 to R72, R75). -/
theorem decodeOfEncodeIsTheInstruction : Obligations.DecodeOfEncodeIsTheInstruction := by
  refine ⟨fun i _ => ⟨decodeCmd_encode i, ?_⟩, fun w i h => ?_⟩
  · rw [decodeTableWord_toNat, decodeWord, decodeCmd_encode]
  · obtain ⟨d, henc, hdata⟩ := encode_of_decodeCmd h
    have hw : w = cmdWord (dataField w) (opField w) := (cmdWord_of_rsvField (rsvField_of_decodeCmd h)).symm
    refine ⟨?_, fun v hv => ?_⟩
    · rw [henc, ← cmdWord_and_lowByte (dataField w) d, ← hw]
    · rw [henc, hdata v hv, ← hw]

/-- Settles O1: fifteen words, each with its fields written out, go through the decoder (R72, R74). -/
theorem tableWordsDecode : Obligations.TableWordsDecode := by
  unfold Obligations.TableWordsDecode
  decide

/-! ### The assembler -/

/-- DATA stands eight bits up in the word, OP below it (R70). -/
theorem cmdWord_ofNat {n : Nat} (hn : n < 256) (op : BitVec 3) :
    cmdWord (BitVec.ofNat 8 n) op = BitVec.ofNat 16 n <<< 8 ||| op.setWidth 16 := by
  have hdata : (BitVec.ofNat 8 n).setWidth 16 = BitVec.ofNat 16 n :=
    BitVec.eq_of_toNat_eq (by simp; omega)
  have hop : (0#5 ++ op).setWidth 16 = op.setWidth 16 := by revert op; decide
  calc cmdWord (BitVec.ofNat 8 n) op
      = (BitVec.ofNat 8 n ++ (0#5 ++ op)).setWidth 16 := by rw [cmdWord, BitVec.append_assoc]; rfl
    _ = BitVec.ofNat 16 n <<< 8 ||| op.setWidth 16 := by
      rw [BitVec.setWidth_append_eq_shiftLeft_setWidth_or, hdata, hop]

namespace Machine

theorem assembleStmt_of_wf {st : Stmt} (h : st.wf = true) : assembleStmt st = some (stmtAccesses st) := if_pos h

theorem assembleStmt_of_not_wf {st : Stmt} (h : st.wf = false) : assembleStmt st = none := by
  simp [assembleStmt, h]

end Machine

open Machine

/-- Settles O56: an immediate below 256 is the byte it names, and the assembler checks the range first (R77). -/
theorem assemblerChecksImmediates : Obligations.AssemblerChecksImmediates := by
  intro n
  refine ⟨fun hn => ?_, fun hn => ?_, rfl, rfl, rfl⟩
  · have hwf : imm8Ok n = true := decide_eq_true hn
    rw [assembleStmt_of_wf (st := .wrb n) hwf, assembleStmt_of_wf (st := .wrdev n) hwf]
    simp only [stmtAccesses, cmdAccess, encode, cmdWord_ofNat hn]
    exact ⟨rfl, rfl⟩
  · have hwf : imm8Ok n = false := decide_eq_false (Nat.not_lt.mpr hn)
    exact ⟨assembleStmt_of_not_wf hwf, assembleStmt_of_not_wf hwf⟩

end Sys2Proof
end

section
/-! PROOF. The invariant over every turn of every agent, and obligations O47 to O50 (R24, R27, R29, R33, R39,
R230, R251). -/

namespace Sys2Proof.Machine

/-! ### Reset and the host -/

/-- Reset establishes the invariant from any state and any pads (R230). -/
theorem inv_applyReset (s : State) : Inv (applyReset s) where
  pcInRange _ := Nat.zero_lt_succ 3
  idleRests h := by cases h
  progKnown := .inr (.inl rfl)
  waitBegun h := absurd rfl h
  addrFixed := rfl
  txnSilent _ := ⟨rfl, rfl⟩
  initProgress _ := ⟨fun l => by cases l <;> rfl, fun h => absurd h (by decide : ¬1 ≤ 0),
    fun h => absurd h (by decide : ¬2 ≤ 0), fun h => absurd h (by decide : ¬3 ≤ 0)⟩
  emulation h := absurd rfl h
  lineDriven l v h := by cases h
  heldInReset _ := ⟨rfl, rfl, rfl, rfl, rfl, rfl, rfl, rfl, rfl, rfl⟩

theorem inv_resetTurn {s : State} (h : Inv s) (b : Bool) : Inv (resetTurn b s) := by
  cases b with
  | true => exact inv_applyReset { s with rst := true }
  | false => exact { h with heldInReset := nofun }

theorem expand_ne_nil (report : Bool) (addr : Addr7) (i : Instr) : expand report addr i ≠ [] := by
  cases i <;> exact List.cons_ne_nil _ _

/-- An idle block that loads an expansion has commanded nothing yet (R55). -/
theorem Inv.load {s : State} (h : Inv s) (hr : s.rst = false) (hb : s.busy = false) (i : Instr) :
    Inv (s.load i (expand s.params.pReportTxnNack s.addr i)) := by
  have hidle : s.prog = [] := s.busy_eq_false.mp hb
  exact
    { pcInRange := List.length_pos_of_ne_nil
      idleRests := fun hnil => absurd hnil (expand_ne_nil _ _ i)
      progKnown := .inr (.inr ⟨i, rfl⟩)
      waitBegun := fun hwait => absurd (h.idleRests hidle).2 hwait
      addrFixed := h.addrFixed
      txnSilent := h.txnSilent
      initProgress := fun hinit => absurd hinit (expand_ne_initSeq _ _ i)
      emulation := fun _ => h.emulation (by simp [hidle, initSeq])
      lineDriven := nofun
      heldInReset := fun hrst => absurd (hr.symm.trans hrst) Bool.false_ne_true }

section
variable {s t : State} (hinv : Inv s)
include hinv

theorem Inv.of_regWrite {off : Offset} {v : Word} (h : regWrite off v s = .next t) : Inv t := by
  have hout (hr : s.rst = false) {p : Prop} (hrst : s.rst = true) : p := absurd (hr.symm.trans hrst) Bool.false_ne_true
  obtain rfl | ⟨hr, -, -, rfl⟩ | ⟨hr, -, -, -, rfl⟩ | ⟨hr, -, hb, i, -, rfl⟩ | ⟨hr, -, rfl⟩ := regWrite_cases h
  · exact hinv
  · exact { hinv with heldInReset := hout hr }
  · exact { hinv with heldInReset := hout hr }
  · exact hinv.load hr hb i
  · exact { hinv with heldInReset := hout hr }

theorem Inv.of_hostTurn (h : hostTurn s = .next t) : Inv t := by
  obtain ⟨-, rfl⟩ | ⟨off, rest, -, rfl⟩ | ⟨rest, -, rfl⟩ | ⟨off, v, rest, -, hw⟩ := hostTurn_cases h
  · exact hinv
  · exact { hinv with }
  · exact { hinv with }
  · exact Inv.of_regWrite (s := { s with host := rest }) { hinv with } hw

end

/-! ### INIT's progress -/

theorem initSeq_getElem? {k : Nat} {op : MicroOp} (h : initSeq[k]? = some op) :
    k = 0 ∧ op = .release .scl ∨ k = 1 ∧ op = .release .sda ∨ k = 2 ∧ op = .clearLatch .scl ∨
      k = 3 ∧ op = .clearLatch .sda := by
  match k with
  | 0 | 1 | 2 | 3 => cases h; simp
  | k + 4 => cases h

/-! ### The end of a micro-operation -/

/-- With P_REPORT_TXN_NACK false no expansion samples into a TXN flag (R172). -/
theorem knownProg.dest_of_silent {p : Params} {addr : Addr7} {prog : List MicroOp} (h : knownProg p addr prog)
    (hsilent : p.pReportTxnNack = false) {j : Nat} {d : Dest} (hj : prog[j]? = some (.sampleAck d)) :
    d = .nackField ∨ d = .discard := by
  have hmem := List.mem_of_getElem? hj
  obtain rfl | rfl | ⟨i, rfl⟩ := h
  · cases hmem
  · simp [initSeq] at hmem
  · cases i with
    | start => simp [expand, startSeq] at hmem
    | stop => simp [expand, stopSeq] at hmem
    | rstart => simp [expand, rstartSeq] at hmem
    | wrb v => exact .inl ((byteSeq_sampleAck_iff v _ _ j).mp hj).2
    | wrdev v =>
      obtain ⟨-, hd⟩ | ⟨-, hd⟩ := (txnSeq_sampleAck_iff _ addr v d j).mp hj <;>
        exact .inr (by simpa [hsilent, sampleDests] using hd)

/-- A micro-operation begins no WAIT (R105). -/
theorem perform_wait_of_zero {s : State} (hw : s.wait = 0) (op : MicroOp) : (perform op s).wait = 0 := by
  cases op <;> simp [perform_fields, hw]

section
variable {s : State} {op : MicroOp} (hinv : Inv s) (hop : s.prog[s.pc]? = some op)
include hinv hop

/-- No WAIT is left begun after a micro-operation (R29, R105). -/
theorem Inv.perform_wait_eq_zero : (perform op s).wait = 0 := by
  by_cases hw : s.wait = 0
  · exact perform_wait_of_zero hw op
  · obtain ⟨site, hsite, -⟩ := hinv.waitBegun hw
    cases hop.symm.trans hsite
    rfl

/-- INIT's progress grows by one request at a time, until the fourth (R231). -/
theorem Inv.initProgress_finishOp (hinit : (s.finishOp op).prog = initSeq) : InitProgress (s.finishOp op) := by
  rw [State.finishOp_prog] at hinit
  split at hinit
  · cases hinit
  · next hmore =>
    obtain ⟨hline, hscl, hsda, hlatch⟩ := hinv.initProgress hinit
    rw [hinit] at hop
    have hpc : (s.finishOp op).pc = s.pc + 1 := by rw [State.finishOp_pc, if_neg hmore]
    have hline' (l : Line) : (s.finishOp op).line.get l = .released := by
      rw [State.finishOp_line, perform_line, hline]
      obtain ⟨-, rfl⟩ | ⟨-, rfl⟩ | ⟨-, rfl⟩ | ⟨-, rfl⟩ := initSeq_getElem? hop <;> cases l <;> rfl
    refine ⟨hline', ?_⟩
    rw [hpc, State.finishOp_padDir, State.finishOp_padLatch]
    obtain ⟨h0, rfl⟩ | ⟨h1, rfl⟩ | ⟨h2, rfl⟩ | ⟨h3, rfl⟩ := initSeq_getElem? hop
    · simp [h0, perform_release, PerLine.set]
    · simp [h1, perform_release, PerLine.set, hscl]
    · simp [h2, perform_clearLatch, PerLine.set, hscl, hsda]
    · simp [h3, hinit, initSeq] at hmore

/-- INIT's end establishes the emulation invariant, and every other micro-operation keeps it (R39, R232). -/
theorem Inv.emulation_finishOp (hinit : (s.finishOp op).prog ≠ initSeq) : Emulation (s.finishOp op) := by
  by_cases hrun : s.prog = initSeq
  · obtain ⟨hline, hscl, hsda, hlatch⟩ := hinv.initProgress hrun
    rw [State.finishOp_prog, hrun] at hinit
    rw [hrun] at hop
    have hlast : s.pc + 1 = initSeq.length := by
      by_contra hmore
      exact hinit (if_neg hmore)
    have hpc : s.pc = 3 := Nat.succ.inj hlast
    rw [hpc] at hop hscl hsda hlatch
    cases hop
    intro l
    rw [State.finishOp_line, State.finishOp_padDir, State.finishOp_padLatch, perform_clearLatch]
    cases l <;> simp [hline, hscl, hsda, hlatch, PerLine.get_scl, PerLine.get_sda, PerLine.set]
  · exact (hinv.emulation hrun).finishOp op

/-- A micro-operation keeps the TXN flags silent unless they are reported (R33, R172). -/
theorem Inv.txnSilent_finishOp (hsilent : s.params.pReportTxnNack = false) :
    (s.finishOp op).txnAddrNack = false ∧ (s.finishOp op).txnDataNack = false := by
  obtain ⟨haddr, hdata⟩ := hinv.finishOp_txnFlags hop
  have hdest (d : Dest) (hd : op = .sampleAck d) := hinv.progKnown.dest_of_silent hsilent (hd ▸ hop)
  rw [haddr, hdata, if_neg fun hd => by simpa using hdest _ hd, if_neg fun hd => by simpa using hdest _ hd]
  exact hinv.txnSilent hsilent

/-- LINE follows the part of the expansion that has been run (R22, R28). -/
theorem Inv.lineDriven_finishOp (l : Line) (v : LineState)
    (hv : lastDrive l ((s.finishOp op).prog.take (s.finishOp op).pc) = some v) : (s.finishOp op).line.get l = v := by
  rw [State.finishOp_prog, State.finishOp_pc] at hv
  split at hv
  · cases hv
  · rw [List.take_add_one, hop, Option.toList_some, lastDrive_append] at hv
    rw [State.finishOp_line, perform_line]
    cases hd : lastDrive l [op] with
    | some w => simpa [hd] using hv
    | none => exact hinv.lineDriven l v (by simpa [hd] using hv)

/-- A micro-operation keeps the invariant (R28). -/
theorem Inv.finishOp (hr : s.rst = false) : Inv (s.finishOp op) where
  pcInRange hne := by
    have hlt := (List.getElem?_eq_some_iff.mp hop).1
    rw [State.finishOp_prog] at hne
    rw [State.finishOp_prog, State.finishOp_pc]
    split at hne
    · exact absurd rfl hne
    · rw [if_neg ‹_›, if_neg ‹_›]
      omega
  idleRests hidle := by
    rw [State.finishOp_prog] at hidle
    rw [State.finishOp_pc, State.finishOp_wait]
    refine ⟨if_pos ?_, hinv.perform_wait_eq_zero hop⟩
    by_contra hmore
    rw [if_neg hmore] at hidle
    simp [hidle] at hop
  progKnown := by
    rw [State.finishOp_prog, State.finishOp_params, State.finishOp_addr]
    split
    · exact .inl rfl
    · exact hinv.progKnown
  waitBegun hw := absurd ((State.finishOp_wait s op).trans (hinv.perform_wait_eq_zero hop)) hw
  addrFixed := by simpa using hinv.addrFixed
  txnSilent hsilent := hinv.txnSilent_finishOp hop (by simpa using hsilent)
  initProgress := hinv.initProgress_finishOp hop
  emulation := hinv.emulation_finishOp hop
  lineDriven := hinv.lineDriven_finishOp hop
  heldInReset hrst := by simp [hr] at hrst

/-- A WAIT that goes on has less left than before (R29, R105). -/
theorem Inv.waitTick (hr : s.rst = false) (hlong : 1 < s.ticksLeft op) : Inv (s.waitTick op) := by
  have hbegun : ∃ site, op = .wait site ∧ s.ticksLeft op ≤ s.params.pDelay.at site := by
    cases op with
    | wait site =>
      refine ⟨site, rfl, ?_⟩
      by_cases hw : s.wait = 0
      · simp [State.ticksLeft, hw]
      · obtain ⟨site', hsite, hlt⟩ := hinv.waitBegun hw
        cases hop.symm.trans hsite
        simpa [State.ticksLeft, hw] using hlt.le
    | release l | driveLow l | clearLatch l | sampleAck d => exact absurd hlong (Nat.lt_irrefl 1)
  obtain ⟨site, rfl, hle⟩ := hbegun
  exact
    { hinv with
      idleRests := fun hidle => by
        have hbusy := s.busy_eq_true.mp (State.busy_of_getElem? hop)
        exact absurd hidle hbusy
      waitBegun := fun _ => ⟨site, hop, by change s.ticksLeft (.wait site) - 1 < s.params.pDelay.at site; omega⟩
      heldInReset := fun hrst => absurd (hr.symm.trans hrst) Bool.false_ne_true }

end

/-! ### Every turn -/

section
variable {s t : State} (hinv : Inv s)
include hinv

theorem Inv.of_seqTurn (h : seqTurn s = .next t) : Inv t := by
  obtain ⟨-, rfl⟩ | ⟨-, -, rfl⟩ | ⟨hr, op, hop, rfl⟩ := seqTurn_cases h
  · exact inv_applyReset s
  · exact hinv
  · exact hinv.finishOp hop hr

theorem Inv.of_clkTurn (h : clkTurn s = .next t) : Inv t := by
  obtain ⟨-, rfl⟩ | ⟨-, -, rfl⟩ | ⟨hr, op, hop, -, rfl⟩ | ⟨hr, op, hop, hlong, rfl⟩ := clkTurn_cases h
  · exact { inv_applyReset s with }
  · exact { hinv with }
  · exact hinv.finishOp hop hr
  · exact hinv.waitTick hop hr hlong

theorem Inv.of_takeTurn {u : Turn} (h : takeTurn u s = .next t) : Inv t := by
  cases u with
  | host => exact hinv.of_hostTurn h
  | seq => exact hinv.of_seqTurn h
  | clk => exact hinv.of_clkTurn h
  | env e => cases h; exact { hinv with }
  | reset b => cases h; exact inv_resetTurn hinv b

/-- The moment, the turns and the environment stand outside the invariant. -/
theorem Inv.stepBegin (e : PerLine Bool) : Inv { s.nextMoment with extLow := e } := { hinv with }

theorem Inv.of_step (h : step s = .next t) : Inv t := by
  obtain ⟨u, e, hstep⟩ := step_turn s
  exact (hinv.stepBegin e).of_takeTurn (hstep.symm.trans h)

/-- Within the index range every turn completes (R27, R251). -/
theorem Inv.takeTurn_next (u : Turn) : ∃ t, takeTurn u s = .next t := by
  have hop : s.busy = true → ∃ op, s.prog[s.pc]? = some op := fun hb =>
    ⟨_, List.getElem?_eq_getElem (hinv.pcInRange (s.busy_eq_true.mp hb))⟩
  cases u with
  | host => exact hostTurn_next s
  | env e => exact ⟨_, rfl⟩
  | reset b => exact ⟨_, rfl⟩
  | seq =>
    simp only [takeTurn, seqTurn, seqStep]
    split
    · exact ⟨_, rfl⟩
    · split
      · obtain ⟨op, hop⟩ := hop ‹_›
        simp [hop]
      · exact ⟨_, rfl⟩
  | clk =>
    simp only [takeTurn, clkTurn, clkStep]
    split
    · exact ⟨_, rfl⟩
    · split
      · obtain ⟨op, hop⟩ := hop ‹_›
        simp only [hop]
        split <;> exact ⟨_, rfl⟩
      · exact ⟨_, rfl⟩

end

/-! ### The rest of a program, left alone -/

theorem knownProg.length_le {p : Params} {addr : Addr7} {prog : List MicroOp} (h : knownProg p addr prog) :
    prog.length ≤ 114 := by
  obtain rfl | rfl | ⟨i, rfl⟩ := h
  · exact Nat.zero_le 114
  · exact (by decide : 4 ≤ 114)
  · cases i with
    | start | stop => exact (by decide : 4 ≤ 114)
    | rstart => exact (by decide : 6 ≤ 114)
    | wrb v => exact (by decide : 53 ≤ 114)
    | wrdev d => exact (by decide : 114 ≤ 114)

/-- One micro-operation leaves one less to run (R28). -/
theorem State.finishOp_left (s : State) {op : MicroOp} (hop : s.prog[s.pc]? = some op) :
    (s.finishOp op).prog.length - (s.finishOp op).pc + 1 = s.prog.length - s.pc := by
  have hlt : s.pc < s.prog.length := (List.getElem?_eq_some_iff.mp hop).1
  rw [State.finishOp_prog, State.finishOp_pc]
  split
  · simp; omega
  · omega

/-- With no turn written down the sequencer steps as long as it is BUSY, under whatever environment is drawn (R251). -/
theorem step_busy_of_no_turns {s : State} {op : MicroOp} (hr : s.rst = false) (hts : s.turns = [])
    (hop : s.prog[s.pc]? = some op) : step s = .next (s.nextMoment.drawEnv.finishOp op) := by
  rw [step_nil hts, State.dueAgent, if_pos (State.busy_of_getElem? hop)]
  exact takeTurn_seq_of_getElem? hr hop

theorem Inv.exists_idle_run {n : Nat} {s : State} (hinv : Inv s) (hr : s.rst = false) (hts : s.turns = [])
    (hn : s.prog.length - s.pc = n) : ∃ t, runSteps n s = .next t ∧ t.busy = false := by
  induction n generalizing s with
  | zero =>
    refine ⟨s, runSteps_zero s, s.busy_eq_false.mpr ?_⟩
    by_contra hne
    have := hinv.pcInRange hne
    omega
  | succ n ih =>
    have hlt : s.pc < s.prog.length := by omega
    have hop := List.getElem?_eq_getElem hlt
    have hstep := step_busy_of_no_turns hr hts hop
    rw [runSteps_next hstep]
    have hleft := State.finishOp_left s.nextMoment.drawEnv hop
    exact ih (hinv.of_step hstep) (by simpa using hr) (by simp [hts]) (Nat.succ.inj (hleft.trans hn))

end Sys2Proof.Machine

namespace Sys2Proof

open Machine

/-- Settles O47: the state after reset is a reset of itself (R42). -/
theorem invariantHoldsAtReset : Obligations.InvariantHoldsAtReset := inv_applyReset State.reset

/-- Settles O48: a step is a turn in a state that differs in what the invariant does not speak of, and each turn keeps
it: a micro-operation one index further along the expansion, a tick inside a WAIT, a loaded expansion, a host access or
reset. -/
theorem everyStepKeepsTheInvariant : Obligations.EveryStepKeepsTheInvariant := fun _ _ hinv => hinv.of_step

/-- Settles O49: the only stop is an index out of range (R27). -/
theorem noStepStops : Obligations.NoStepStops := by
  intro s hinv
  obtain ⟨u, e, hstep⟩ := step_turn s
  rw [hstep]
  exact (hinv.stepBegin e).takeTurn_next u

/-- Settles O50: the longest expansion is WRDEV's, and each step is one micro-operation of those left (R28, R251). -/
theorem busyReturnsToZero : Obligations.BusyReturnsToZero := fun _ hinv hr hts =>
  ⟨hinv.progKnown.length_le, hinv.exists_idle_run hr hts rfl⟩

end Sys2Proof
end

section
/-! PROOF. The CMD write and its commands, the host's turn and its frame, and obligations O6, O8, O9, O10, O13, O14 and
O17 (R54, R55, R58, R64, R78, R202). -/

namespace Sys2Proof.Machine

/-! ### Acceptance -/

/-- An idle block loads the command's expansion (R55). -/
theorem exec_of_idle {s : State} (hb : s.busy = false) (i : Instr) :
    exec i s = .next (s.load i (expand s.params.pReportTxnNack s.addr i)) := by
  rw [exec_eq, acceptCommand_idle hb]

/-- A busy block drops the command (R202). -/
theorem exec_of_busy {s : State} (hb : s.busy = true) (i : Instr) : exec i s = .next (raiseError .busy s) := by
  rw [exec_eq, acceptCommand_busy hb]

theorem writeCmd_of_busy {s : State} (hb : s.busy = true) (w : Word) :
    writeCmd w s = .next (raiseError .busy s) := by
  simp [writeCmd, hb]

/-- A CMD write of a command's word is that command, whether the block is busy or not (R55, R202). -/
theorem writeCmd_of_decodeCmd {w : Word} {i : Instr} (hd : decodeCmd w = .ok i) (s : State) :
    writeCmd w s = exec i s := by
  cases hb : s.busy with
  | true => rw [writeCmd_of_busy hb, exec_of_busy hb]
  | false => simp [writeCmd, hb, hd]

theorem writeCmd_of_error {w : Word} {r : Reject} {s : State} (hb : s.busy = false) (hd : decodeCmd w = .error r) :
    writeCmd w s = .next (raiseError .illegal s) := by
  simp [writeCmd, hb, hd]

theorem regWrite_cmd {s : State} (hr : s.rst = false) (w : Word) : regWrite 0#2 w s = writeCmd w s := by
  simp [regWrite, hr]

/-- Every other offset ignores the write (R54). -/
theorem regWrite_of_ne {off : Offset} (h0 : off ≠ 0#2) (h1 : off ≠ 1#2) (v : Word) (s : State) :
    regWrite off v s = .next s := by
  simp [regWrite, h0, h1]

/-! ### The host's turn -/

theorem takeTurn_host_of_write {s : State} {off : Offset} {v : Word} {rest : List HostOp}
    (h : s.host = .write off v :: rest) : takeTurn .host s = regWrite off v { s with host := rest } := by
  simp [takeTurn, hostTurn, h]

/-- One poll: STATUS as it reads, and WAITIDLE stays next while its bit 0 is BUSY (R78). -/
theorem takeTurn_host_of_waitIdle {s : State} {rest : List HostOp} (hr : s.rst = false)
    (h : s.host = .waitIdle :: rest) :
    takeTurn .host s = .next { s with rdata := s.status, host := if s.busy then s.host else rest } := by
  have hbit : s.status.getLsbD 0 = s.busy := s.status_getLsbD 0
  simp only [takeTurn, hostTurn, h, regRead_status hr, hbit]

/-- What a register write can reach: the error bits, and SEQ of an idle block with the record of its commands (R55,
R56). -/
theorem regWrite_frame {off : Offset} {v : Word} {s t : State} (h : regWrite off v s = .next t) :
    t = { s with
      errIllegal := t.errIllegal, errBusy := t.errBusy, prog := t.prog, pc := t.pc, accepted := t.accepted } ∧
      (s.busy = true → t.prog = s.prog ∧ t.pc = s.pc ∧ t.accepted = s.accepted) := by
  obtain rfl | ⟨-, -, -, rfl⟩ | ⟨-, -, -, -, rfl⟩ | ⟨-, -, hb, i, -, rfl⟩ | ⟨-, -, rfl⟩ := regWrite_cases h
  · exact ⟨rfl, fun _ => ⟨rfl, rfl, rfl⟩⟩
  · exact ⟨rfl, fun _ => ⟨rfl, rfl, rfl⟩⟩
  · exact ⟨rfl, fun _ => ⟨rfl, rfl, rfl⟩⟩
  · exact ⟨rfl, fun hbusy => absurd (hb.symm.trans hbusy) Bool.false_ne_true⟩
  · exact ⟨rfl, fun _ => ⟨rfl, rfl, rfl⟩⟩

/-- The host's turn reaches no more than that beside what the host itself sees and has still to do (R58, R64). -/
theorem hostTurn_frame {s t : State} (h : hostTurn s = .next t) :
    t = { s with
      errIllegal := t.errIllegal, errBusy := t.errBusy, prog := t.prog, pc := t.pc, accepted := t.accepted,
      rdata := t.rdata, host := t.host } ∧
      (s.busy = true → t.prog = s.prog ∧ t.pc = s.pc ∧ t.accepted = s.accepted) := by
  obtain ⟨-, rfl⟩ | ⟨off, rest, -, rfl⟩ | ⟨rest, -, rfl⟩ | ⟨off, v, rest, -, hw⟩ := hostTurn_cases h
  · exact ⟨rfl, fun _ => ⟨rfl, rfl, rfl⟩⟩
  · exact ⟨rfl, fun _ => ⟨rfl, rfl, rfl⟩⟩
  · exact ⟨rfl, fun _ => ⟨rfl, rfl, rfl⟩⟩
  · obtain ⟨hframe, hseq⟩ := regWrite_frame hw
    refine ⟨?_, hseq⟩
    rw [hframe]

/-! ### The load of one command -/

/-- Running the expansion to its end makes no access and takes no turn (R60). -/
theorem State.settle_host_turns (s : State) : s.settle.host = s.host ∧ s.settle.turns = s.turns := by
  have hfold (ops : List MicroOp) (t : State) :
      (ops.foldl (fun t op => (perform op t).passTicks (t.ticksLeft op)) t).host = t.host ∧
        (ops.foldl (fun t op => (perform op t).passTicks (t.ticksLeft op)) t).turns = t.turns := by
    induction ops generalizing t with
    | nil => exact ⟨rfl, rfl⟩
    | cons op ops ih => simp [ih]
  exact hfold _ s

/-- A host turn at a CMD write of a command's word is that command, the turn and the access used up (R55, R60). -/
theorem step_of_cmd_write {s : State} {w : Word} {i : Instr} {rest : List HostOp} {ts : List Turn}
    (hts : s.turns = .host :: ts) (hhost : s.host = .write 0#2 w :: rest) (hr : s.rst = false)
    (hd : decodeCmd w = .ok i) :
    step s = exec i { s with moment := s.moment + 1, turns := ts, host := rest } := by
  have hnext : s.nextMoment.host = .write 0#2 w :: rest := hhost
  rw [step_cons hts, takeTurn_host_of_write hnext, regWrite_cmd (by exact hr), writeCmd_of_decodeCmd hd,
    State.nextMoment, hts, List.tail_cons]

end Sys2Proof.Machine

namespace Sys2Proof

open Machine

/-- Settles O6: BUSY first, then `Legal`, then the expansion (R55, R204). -/
theorem cmdWriteStartsOrRaises : Obligations.CmdWriteStartsOrRaises := by
  intro s w hr
  rw [regWrite_cmd hr]
  refine ⟨fun hb => writeCmd_of_busy hb w, fun hb hl => ?_, fun hb hl => ?_⟩
  · obtain ⟨r, hd⟩ := exists_decodeCmd_error_of_not_legal hl
    exact writeCmd_of_error hb hd
  · obtain ⟨i, hd⟩ := exists_decodeCmd_of_legal hl
    exact ⟨i, hd, (writeCmd_of_decodeCmd hd s).trans (exec_of_idle hb i)⟩

/-- Settles O8: neither offset is CMD's or STATUS's (R54). -/
theorem writesToAddrAndReservedAreIgnored : Obligations.WritesToAddrAndReservedAreIgnored := by
  rintro s v off (rfl | rfl)
  · exact regWrite_of_ne (by decide) (by decide) v s
  · exact regWrite_of_ne (by decide) (by decide) v s

/-- Settles O9: the fields the host's turn can reach are the others (R58, R64). -/
theorem hostAccessFrame : Obligations.HostAccessFrame := by
  intro s
  obtain ⟨t, ht⟩ := hostTurn_next s
  obtain ⟨hframe, hseq⟩ := hostTurn_frame ht
  have field {α : Type} (f : State → α) := congrArg f hframe
  exact ⟨t, ht, field (·.line), field (·.addr), field (·.nack), field (·.txnAddrNack), field (·.txnDataNack),
    field (·.wait), field (·.padDir), field (·.padLatch), field (·.extLow), field (·.rst), field (·.turns),
    field (·.trace), field (·.ticks), field (·.moment), field (·.params), hseq⟩

/-- Settles O10: bit 0 of the STATUS word that WAITIDLE reads is BUSY (R32, R78). -/
theorem waitIdlePolls : Obligations.WaitIdlePolls := by
  intro s rest hr h
  rw [takeTurn_host_of_waitIdle hr h]
  refine ⟨fun hb => ?_, fun hb => ?_⟩ <;> simp [hb]

/-- Settles O13: the host's turn makes the CMD write, and the write is the decoded command; `withFetchWord` is a state
in which such a turn is next (R51, R55). -/
theorem stepRunsTheDecodedCommand : Obligations.StepRunsTheDecodedCommand := by
  refine ⟨fun s w i rest ts hts hhost hr hd _ => step_of_cmd_write hts hhost hr hd, fun s w i hd => ?_⟩
  have hword : BitVec.ofNat 16 (w.toNat % 2 ^ 16) = w := by
    rw [Nat.mod_eq_of_lt w.isLt, BitVec.ofNat_toNat, BitVec.setWidth_eq]
  obtain ⟨hhost, hturns⟩ := s.settle_host_turns
  rw [State.withFetchWord, hword, step_of_cmd_write rfl rfl rfl hd, State.withCmdWrite, ← hhost, ← hturns]

/-- Settles O14: the expansions of the three commands, written out (R130, R133, R136). -/
theorem framingCommandsLoadTheirSequences : Obligations.FramingCommandsLoadTheirSequences :=
  fun _ hb => ⟨exec_of_idle hb .start, exec_of_idle hb .stop, exec_of_idle hb .rstart⟩

/-- Settles O17: a dropped command sets ERR_BUSY and nothing else (R202). -/
theorem commandsWhileBusyAreDropped : Obligations.CommandsWhileBusyAreDropped := fun i _ hb => exec_of_busy hb i

end Sys2Proof
end

section
/-! PROOF. What a turn of any agent does to the lines, the pads and the error bits, said once, and obligations O11, O12,
O44, O51, O52 and O53 (R22, R26, R37, R201, R202, R230). -/

namespace Sys2Proof.Machine

/-! ### A micro-operation on one line -/

/-- Only RELEASE and DRIVE_LOW of the line command it (R22). -/
theorem lastDrive_singleton (l : Line) (op : MicroOp) :
    lastDrive l [op] =
      if op = .release l then some .released else if op = .driveLow l then some .drivenLow else none := by
  cases op <;> simp [lastDrive]

/-- The pad's direction goes with them (R101, R102, R109). -/
theorem perform_padDir (op : MicroOp) (s : State) (l : Line) :
    (perform op s).padDir.get l =
      if op = .release l then .input else if op = .driveLow l then .output else s.padDir.get l := by
  cases op with
  | release k => simp [perform_release, PerLine.get_set, eq_comm]
  | driveLow k => simp [perform_driveLow, PerLine.get_set, eq_comm]
  | clearLatch k => simp [perform_clearLatch]
  | wait site => simp [perform_wait]
  | sampleAck d => simp [perform_sampleAck]

section
variable {s t : State} {u : Turn}

/-! ### Lines, pads and the pin trace -/

/-- A turn that runs no micro-operation to its end reaches no pad and no line, but for the reset of LINE (R37, R230). -/
theorem takeTurn_pins_cases (h : takeTurn u s = .next t) :
    (t.padDir = s.padDir ∧ t.padLatch = s.padLatch ∧ t.trace = s.trace ∧ (t.rst = true ∨ t.line = s.line)) ∨
      ∃ op, s.prog[s.pc]? = some op ∧ t = s.finishOp op := by
  cases u with
  | host =>
    have field {α : Type} (f : State → α) := congrArg f (hostTurn_frame h).1
    exact .inl ⟨field (·.padDir), field (·.padLatch), field (·.trace), .inr (field (·.line))⟩
  | seq =>
    obtain ⟨hr, rfl⟩ | ⟨-, -, rfl⟩ | ⟨-, op, hop, rfl⟩ := seqTurn_cases h
    · exact .inl ⟨rfl, rfl, rfl, .inl hr⟩
    · exact .inl ⟨rfl, rfl, rfl, .inr rfl⟩
    · exact .inr ⟨op, hop, rfl⟩
  | clk =>
    obtain ⟨hr, rfl⟩ | ⟨-, -, rfl⟩ | ⟨-, op, hop, -, rfl⟩ | ⟨-, op, -, -, rfl⟩ := clkTurn_cases h
    · exact .inl ⟨rfl, rfl, rfl, .inl hr⟩
    · exact .inl ⟨rfl, rfl, rfl, .inr rfl⟩
    · exact .inr ⟨op, hop, rfl⟩
    · exact .inl ⟨rfl, rfl, rfl, .inr rfl⟩
  | env e => cases h; exact .inl ⟨rfl, rfl, rfl, .inr rfl⟩
  | reset b =>
    cases h
    cases b with
    | true => exact .inl ⟨rfl, rfl, rfl, .inl rfl⟩
    | false => exact .inl ⟨rfl, rfl, rfl, .inr rfl⟩

/-- The same of a step. -/
theorem step_pins_cases (h : step s = .next t) :
    (t.padDir = s.padDir ∧ t.padLatch = s.padLatch ∧ (t.rst = true ∨ t.line = s.line)) ∨
      ∃ op, s.prog[s.pc]? = some op ∧ ∀ l,
        t.line.get l = (if op = .release l then .released else if op = .driveLow l then .drivenLow else s.line.get l) ∧
        t.padDir.get l = (if op = .release l then .input else if op = .driveLow l then .output else s.padDir.get l) ∧
        t.padLatch.get l = if op = .clearLatch l then .low else s.padLatch.get l := by
  obtain ⟨u, e, hstep⟩ := step_turn s
  obtain ⟨hdir, hlatch, -, hline⟩ | ⟨op, hop, rfl⟩ := takeTurn_pins_cases (hstep.symm.trans h)
  · exact .inl ⟨hdir, hlatch, hline⟩
  · refine .inr ⟨op, hop, fun l => ⟨?_, ?_, ?_⟩⟩
    · rw [State.finishOp_line, perform_line, lastDrive_singleton, apply_ite (Option.getD · _),
        apply_ite (Option.getD · _)]
      rfl
    · rw [State.finishOp_padDir, perform_padDir]
      rfl
    · rw [State.finishOp_padLatch, perform_padLatch]
      rfl

/-! ### The parameters -/

theorem takeTurn_params (h : takeTurn u s = .next t) : t.params = s.params := by
  cases u with
  | host => exact (congrArg State.params (hostTurn_frame h).1 :)
  | seq =>
    obtain ⟨-, rfl⟩ | ⟨-, -, rfl⟩ | ⟨-, op, -, rfl⟩ := seqTurn_cases h
    · rfl
    · rfl
    · exact s.finishOp_params op
  | clk =>
    obtain ⟨-, rfl⟩ | ⟨-, -, rfl⟩ | ⟨-, op, -, -, rfl⟩ | ⟨-, op, -, -, rfl⟩ := clkTurn_cases h
    · rfl
    · rfl
    · exact s.finishOp_params op
    · rfl
  | env e => cases h; rfl
  | reset b => cases h; cases b <;> rfl

theorem step_params (h : step s = .next t) : t.params = s.params := by
  obtain ⟨u, e, hstep⟩ := step_turn s
  exact (takeTurn_params (hstep.symm.trans h) :)

/-! ### The error bits -/

/-- What a register write makes of the two error bits (R201, R202, R204, R207). -/
theorem regWrite_errors_cases {off : Offset} {v : Word} (h : regWrite off v s = .next t) :
    (t.errIllegal = s.errIllegal ∧ t.errBusy = s.errBusy) ∨
      (off = 0#2 ∧ s.busy = true ∧ t.errIllegal = s.errIllegal ∧ t.errBusy = true) ∨
      (off = 0#2 ∧ s.busy = false ∧ Legal v = false ∧ t.errIllegal = true ∧ t.errBusy = s.errBusy) ∨
      (off = 1#2 ∧ t.errIllegal = (s.errIllegal && !v.getLsbD 2) ∧ t.errBusy = (s.errBusy && !v.getLsbD 3)) := by
  obtain rfl | ⟨-, hoff, hb, rfl⟩ | ⟨-, hoff, hb, ⟨r, hd⟩, rfl⟩ | ⟨-, -, -, i, -, rfl⟩ | ⟨-, hoff, rfl⟩ :=
    regWrite_cases h
  · exact .inl ⟨rfl, rfl⟩
  · exact .inr (.inl ⟨hoff, hb, rfl, rfl⟩)
  · have hl : Legal v = false := by
      by_contra hlegal
      obtain ⟨i, hi⟩ := exists_decodeCmd_of_legal (eq_true_of_ne_false hlegal)
      cases hi.symm.trans hd
    exact .inr (.inr (.inl ⟨hoff, hb, hl, rfl, rfl⟩))
  · exact .inl ⟨rfl, rfl⟩
  · exact .inr (.inr (.inr ⟨hoff, rfl, rfl⟩))

/-- Only reset and a register write of the host reach the error bits (R26, R204). -/
theorem takeTurn_errors_cases (h : takeTurn u s = .next t) :
    (t.errIllegal = s.errIllegal ∧ t.errBusy = s.errBusy) ∨
      (t.rst = true ∧ t.errIllegal = false ∧ t.errBusy = false) ∨
      ∃ off v rest, s.host = .write off v :: rest ∧ regWrite off v { s with host := rest } = .next t := by
  cases u with
  | host =>
    obtain ⟨-, rfl⟩ | ⟨_, _, -, rfl⟩ | ⟨_, -, rfl⟩ | hwrite := hostTurn_cases h
    · exact .inl ⟨rfl, rfl⟩
    · exact .inl ⟨rfl, rfl⟩
    · exact .inl ⟨rfl, rfl⟩
    · exact .inr (.inr hwrite)
  | seq =>
    obtain ⟨hr, rfl⟩ | ⟨-, -, rfl⟩ | ⟨-, op, -, rfl⟩ := seqTurn_cases h
    · exact .inr (.inl ⟨hr, rfl, rfl⟩)
    · exact .inl ⟨rfl, rfl⟩
    · exact .inl ⟨s.finishOp_errIllegal op, s.finishOp_errBusy op⟩
  | clk =>
    obtain ⟨hr, rfl⟩ | ⟨-, -, rfl⟩ | ⟨-, op, -, -, rfl⟩ | ⟨-, op, -, -, rfl⟩ := clkTurn_cases h
    · exact .inr (.inl ⟨hr, rfl, rfl⟩)
    · exact .inl ⟨rfl, rfl⟩
    · exact .inl ⟨s.finishOp_errIllegal op, s.finishOp_errBusy op⟩
    · exact .inl ⟨rfl, rfl⟩
  | env e => cases h; exact .inl ⟨rfl, rfl⟩
  | reset b =>
    cases h
    cases b with
    | true => exact .inr (.inl ⟨rfl, rfl, rfl⟩)
    | false => exact .inl ⟨rfl, rfl⟩

/-- The same of a step, the register write taken apart. -/
theorem step_errors_cases (h : step s = .next t) :
    (t.errIllegal = s.errIllegal ∧ t.errBusy = s.errBusy) ∨
      (t.rst = true ∧ t.errIllegal = false ∧ t.errBusy = false) ∨
      ∃ off v rest, s.host = .write off v :: rest ∧
        ((off = 0#2 ∧ s.busy = true ∧ t.errIllegal = s.errIllegal ∧ t.errBusy = true) ∨
          (off = 0#2 ∧ s.busy = false ∧ Legal v = false ∧ t.errIllegal = true ∧ t.errBusy = s.errBusy) ∨
          (off = 1#2 ∧ t.errIllegal = (s.errIllegal && !v.getLsbD 2) ∧
            t.errBusy = (s.errBusy && !v.getLsbD 3))) := by
  obtain ⟨u, e, hstep⟩ := step_turn s
  obtain hsame | hreset | ⟨off, v, rest, hhost, hw⟩ := takeTurn_errors_cases (hstep.symm.trans h)
  · exact .inl hsame
  · exact .inr (.inl hreset)
  · obtain hsame | hwrite := regWrite_errors_cases hw
    · exact .inl hsame
    · exact .inr (.inr ⟨off, v, rest, hhost, hwrite⟩)

end

/-! ### Reset -/

theorem atResetValues_applyReset (s : State) : AtResetValues (applyReset s) :=
  ⟨rfl, rfl, rfl, rfl, rfl, rfl, rfl, rfl, rfl, rfl⟩

theorem takeTurn_seq_of_rst {s : State} (hr : s.rst = true) : takeTurn .seq s = .next (applyReset s) := by
  simp [takeTurn, seqTurn, hr]

theorem takeTurn_clk_of_rst {s : State} (hr : s.rst = true) :
    takeTurn .clk s = .next ((applyReset s).passTicks 1) := by
  simp [takeTurn, clkTurn, hr]

theorem regRead_of_rst {s : State} (hr : s.rst = true) (off : Offset) : regRead off s = 0x0000#16 := by
  simp [regRead, hr]

theorem regWrite_of_rst {s : State} (hr : s.rst = true) (off : Offset) (v : Word) : regWrite off v s = .next s := by
  simp [regWrite, hr]

end Sys2Proof.Machine

namespace Sys2Proof

open Machine

/-- Settles O11: a bit that falls does so by reset or by a STATUS write whose own bit is set (R26, R207). -/
theorem errorBitsAreSticky : Obligations.ErrorBitsAreSticky := by
  intro s t h
  obtain ⟨hi, hb⟩ | ⟨hr, -, -⟩ | ⟨off, v, rest, hhost, hw⟩ := step_errors_cases h
  · exact ⟨fun h1 h0 => by simp [hi, h1] at h0, fun h1 h0 => by simp [hb, h1] at h0⟩
  · exact ⟨fun _ _ => .inl hr, fun _ _ => .inl hr⟩
  · obtain ⟨-, -, hi, hb⟩ | ⟨-, -, -, hi, hb⟩ | ⟨rfl, hi, hb⟩ := hw
    · exact ⟨fun h1 h0 => by simp [hi, h1] at h0, fun _ h0 => by simp [hb] at h0⟩
    · exact ⟨fun _ h0 => by simp [hi] at h0, fun h1 h0 => by simp [hb, h1] at h0⟩
    · exact ⟨fun h1 h0 => .inr ⟨v, rest, hhost, by simpa [hi, h1] using h0⟩,
        fun h1 h0 => .inr ⟨v, rest, hhost, by simpa [hb, h1] using h0⟩⟩

/-- Settles O12: a bit that rises does so by a CMD write, ERR_BUSY's while BUSY and ERR_ILLEGAL's else (R201, R202,
R204). -/
theorem onlyCmdWritesRaise : Obligations.OnlyCmdWritesRaise := by
  intro s t h
  obtain ⟨hi, hb⟩ | ⟨-, hi, hb⟩ | ⟨off, v, rest, hhost, hw⟩ := step_errors_cases h
  · exact ⟨fun h0 h1 => by simp [hi, h0] at h1, fun h0 h1 => by simp [hb, h0] at h1⟩
  · exact ⟨fun _ h1 => by simp [hi] at h1, fun _ h1 => by simp [hb] at h1⟩
  · obtain ⟨rfl, hbusy, hi, hb⟩ | ⟨rfl, hidle, hl, hi, hb⟩ | ⟨-, hi, hb⟩ := hw
    · exact ⟨fun h0 h1 => by simp [hi, h0] at h1, fun _ _ => ⟨hbusy, hi, v, rest, hhost⟩⟩
    · exact ⟨fun _ _ => ⟨hidle, hb, v, rest, hhost, hl⟩, fun h0 h1 => by simp [hb, h0] at h1⟩
    · exact ⟨fun h0 h1 => by simp [hi, h0] at h1, fun h0 h1 => by simp [hb, h0] at h1⟩

/-- Settles O44: the rise of `rst` and the turns while it is 1 all take the reset values and make no request (R230). -/
theorem resetTakesTheBlock : Obligations.ResetTakesTheBlock := by
  refine ⟨fun s => ⟨_, rfl, atResetValues_applyReset _, rfl, rfl, rfl, rfl⟩, fun s hr => ⟨?_, ?_, fun off v => ?_⟩⟩
  · exact ⟨_, takeTurn_seq_of_rst hr, atResetValues_applyReset s, rfl, rfl, rfl, rfl⟩
  · exact ⟨_, takeTurn_clk_of_rst hr, atResetValues_applyReset s, rfl, rfl, rfl, rfl⟩
  · exact ⟨regRead_of_rst hr off, regWrite_of_rst hr off v⟩

/-- Settles O51: no turn reaches a parameter, and the invariant ties ADDR to one (R7, R24). -/
theorem parametersNeverChange : Obligations.ParametersNeverChange := by
  intro s t h
  refine ⟨step_params h, fun hinv => ?_⟩
  rw [(hinv.of_step h).addrFixed, step_params h, hinv.addrFixed]

/-- Settles O52: outside reset a line that changes has its micro-operation at `SEQ.pc` (R22). -/
theorem onlyLineMicroOpsChangeLine : Obligations.OnlyLineMicroOpsChangeLine := by
  intro s t l h hne
  obtain ⟨-, -, hr | hline⟩ | ⟨op, hop, heff⟩ := step_pins_cases h
  · exact .inl hr
  · exact absurd (congrArg (PerLine.get · l) hline) hne
  · rw [(heff l).1] at hne
    rw [hop, Option.some_inj, Option.some_inj]
    by_contra! hother
    exact hne (by rw [if_neg hother.2.1, if_neg hother.2.2])

/-- Settles O53: a pad that changes has its request at `SEQ.pc`, and CLEAR_LOW leaves the latch LOW (R37). -/
theorem onlyRequestsChangeThePads : Obligations.OnlyRequestsChangeThePads := by
  intro s t l h
  obtain ⟨hdir, hlatch, -⟩ | ⟨op, hop, heff⟩ := step_pins_cases h
  · exact ⟨fun hne => absurd (congrArg (PerLine.get · l) hdir) hne,
      fun hne => absurd (congrArg (PerLine.get · l) hlatch) hne⟩
  · obtain ⟨-, hdir, hlatch⟩ := heff l
    rw [hdir, hlatch, hop, Option.some_inj, Option.some_inj, Option.some_inj]
    refine ⟨fun hne => ?_, fun hne => ?_⟩
    · by_contra! hother
      exact hne (by rw [if_neg hother.1, if_neg hother.2])
    · by_cases hclear : op = .clearLatch l
      · exact ⟨hclear, if_pos hclear⟩
      · exact absurd (if_neg hclear) hne

end Sys2Proof
end

section
/-! PROOF. Micro-operations and the sequencer's two grains, whole micro-operations and ticks, and obligations O19, O20,
O22, O23, O24, O26 and O43 (R28, R29, R101 to R106, R112). -/

namespace Sys2Proof.Machine

/-! ### The clock's turn, forwards -/

theorem takeTurn_clk_of_idle {s : State} (hr : s.rst = false) (hb : s.busy = false) :
    takeTurn .clk s = .next (s.passTicks 1) := by
  simp [takeTurn, clkTurn, hr, hb]

section
variable {s : State} {op : MicroOp} (hr : s.rst = false) (hop : s.prog[s.pc]? = some op)
include hr hop

theorem takeTurn_clk_of_last (hlast : s.ticksLeft op ≤ 1) : takeTurn .clk s = .next (s.finishOp op) := by
  simp [takeTurn, clkTurn, clkStep, hr, State.busy_of_getElem? hop, hop, hlast]

theorem takeTurn_clk_of_more (hmore : 1 < s.ticksLeft op) : takeTurn .clk s = .next (s.waitTick op) := by
  simp [takeTurn, clkTurn, clkStep, hr, State.busy_of_getElem? hop, hop, hmore]

end

/-- What is left of a WAIT, as R105 says it: its delay when it begins, else the counter. -/
theorem State.ticksLeft_wait {s : State} {site : Site} {n : Nat}
    (hn : s.wait = 0 ∧ s.params.pDelay.at site = n ∨ s.wait = n ∧ n ≠ 0) : s.ticksLeft (.wait site) = n := by
  obtain ⟨hwait, hn⟩ | ⟨hwait, hn⟩ := hn <;> simp [State.ticksLeft, hwait, hn]

/-- SEQ at the end of a micro-operation: idle, or one index further (R28). -/
theorem State.finishOp_seq (s : State) (op : MicroOp) :
    (s.finishOp op).prog = [] ∧ (s.finishOp op).pc = 0 ∨
      (s.finishOp op).prog = s.prog ∧ (s.finishOp op).pc = s.pc + 1 := by
  rw [State.finishOp_prog, State.finishOp_pc]
  split
  · exact .inl ⟨rfl, rfl⟩
  · exact .inr ⟨rfl, rfl⟩

/-- The end of a micro-operation as one record (R28, R250). -/
theorem State.finishOp_fields (s : State) (op : MicroOp) :
    s.finishOp op =
      { perform op s with
        prog := if s.pc + 1 = s.prog.length then [] else s.prog
        pc := if s.pc + 1 = s.prog.length then 0 else s.pc + 1
        ticks := s.ticks + s.ticksLeft op } := by
  rw [← s.finishOp_prog op, ← s.finishOp_pc op, ← s.finishOp_ticks op]
  exact s.finishOp_frame op

/-! ### A WAIT as the run of its ticks -/

/-- A tick inside a WAIT moves its end neither nearer nor further (R29, R105). -/
theorem State.waitTick_finishOp (s : State) {site : Site} (hmore : 1 < s.ticksLeft (.wait site)) :
    (s.waitTick (.wait site)).ticksLeft (.wait site) + 1 = s.ticksLeft (.wait site) ∧
      (s.waitTick (.wait site)).finishOp (.wait site) = s.finishOp (.wait site) := by
  have hleft : (s.waitTick (.wait site)).ticksLeft (.wait site) = s.ticksLeft (.wait site) - 1 :=
    State.ticksLeft_wait (.inr ⟨rfl, by omega⟩)
  have hticks : (s.waitTick (.wait site)).ticks + (s.waitTick (.wait site)).ticksLeft (.wait site) =
      s.ticks + s.ticksLeft (.wait site) := by
    change s.ticks + 1 + _ = _
    omega
  refine ⟨by omega, ?_⟩
  rw [State.finishOp_fields, hticks, State.finishOp_fields]
  rfl

/-- A WAIT looks at no free value, so its end is the same in the next moment (R105). -/
theorem State.finishOp_wait_nextMoment (s : State) (site : Site) :
    s.nextMoment.finishOp (.wait site) =
      { s.finishOp (.wait site) with moment := s.moment + 1, turns := s.turns.tail } := by
  rw [State.finishOp_fields, State.finishOp_fields]
  rfl

/-- As many ticks as a WAIT has left end it, one for a WAIT of 0 (R29, R105). -/
theorem runSteps_clk_wait {site : Site} {n : Nat} {s : State} {ts : List Turn} (hr : s.rst = false)
    (hop : s.prog[s.pc]? = some (.wait site)) (hn : max 1 (s.ticksLeft (.wait site)) = n + 1)
    (hts : s.turns = List.replicate (n + 1) .clk ++ ts) :
    runSteps (n + 1) s =
      .next { s.finishOp (.wait site) with moment := s.moment + (n + 1), turns := ts } := by
  have hsame (s : State) : s.nextMoment.ticksLeft (.wait site) = s.ticksLeft (.wait site) := rfl
  induction n generalizing s with
  | zero =>
    have hlast : s.nextMoment.ticksLeft (.wait site) ≤ 1 := by rw [hsame]; omega
    rw [runSteps_next ((step_cons hts).trans (takeTurn_clk_of_last hr hop hlast)), runSteps_zero,
      State.finishOp_wait_nextMoment, hts]
    rfl
  | succ n ih =>
    have hmore : 1 < s.nextMoment.ticksLeft (.wait site) := by rw [hsame]; omega
    obtain ⟨hleft, hfinish⟩ := s.nextMoment.waitTick_finishOp hmore
    have hmoment : s.moment + 1 + (n + 1) = s.moment + (n + 1 + 1) := by omega
    have hturns : s.turns.tail = List.replicate (n + 1) .clk ++ ts := congrArg List.tail hts
    rw [runSteps_next ((step_cons hts).trans (takeTurn_clk_of_more hr hop hmore)),
      ih (s := s.nextMoment.waitTick (.wait site)) hr hop (by rw [hsame] at hleft; omega) hturns, hfinish,
      State.finishOp_wait_nextMoment, ← hmoment]
    rfl

end Sys2Proof.Machine

namespace Sys2Proof

open Machine

/-- Settles O19: each of the three changes its line's or pad's one value and makes one request (R101 to R103). -/
theorem lineMicroOpsEffect : Obligations.LineMicroOpsEffect := by
  intro l k s hk
  refine ⟨⟨?_, ?_, ?_, ?_, rfl, rfl⟩, ⟨?_, ?_, ?_, ?_, rfl, rfl⟩, ⟨?_, ?_, rfl, rfl⟩⟩ <;>
    simp [perform_release, perform_driveLow, perform_clearLatch, PerLine.get_set, hk]

/-- Settles O20: one READ_LEVEL whose level goes where the destination says (R106). -/
theorem sampleAckEffect : Obligations.SampleAckEffect := by
  intro d s
  rw [perform_sampleAck]
  exact ⟨rfl, rfl, rfl, rfl, rfl⟩

/-- Settles O22: the turn is one micro-operation, which reaches none of these (R28, R41, R204). -/
theorem sequencerTurnFrame : Obligations.SequencerTurnFrame := by
  intro s t hr h
  obtain ⟨hrst, -⟩ | ⟨-, -, rfl⟩ | ⟨-, op, -, rfl⟩ := seqTurn_cases h
  · cases hr.symm.trans hrst
  · simp
  · obtain ⟨hprog, -⟩ | ⟨hprog, -⟩ := s.finishOp_seq op <;> simp [hprog]

/-- Settles O23: the tick is one of a WAIT that goes on, or its end (R29, R105). -/
theorem waitCountsDownTickByTick : Obligations.WaitCountsDownTickByTick := by
  intro s site hr hop
  rcases Nat.lt_or_ge 1 (s.ticksLeft (.wait site)) with hmore | hlast
  · refine ⟨_, takeTurn_clk_of_more hr hop hmore, rfl, rfl, rfl, rfl, fun n hn => ?_⟩
    have hleft := State.ticksLeft_wait hn
    exact ⟨fun _ => ⟨congrArg (· - 1) hleft, rfl, rfl, rfl, rfl⟩, fun _ => by omega⟩
  · refine ⟨_, takeTurn_clk_of_last hr hop hlast, ?_, ?_, ?_, ?_, fun n hn => ?_⟩
    · rw [State.finishOp_line]; rfl
    · rw [State.finishOp_padDir]; rfl
    · rw [State.finishOp_padLatch]; rfl
    · rw [State.finishOp_nack]; rfl
    · have hleft := State.ticksLeft_wait hn
      refine ⟨fun _ => by omega, fun _ => ⟨?_, ?_, ?_, s.finishOp_seq _⟩⟩
      · rw [State.finishOp_wait]; rfl
      · rw [State.finishOp_ticks, hleft]
      · rw [State.finishOp_trace]; rfl

/-- Settles O24: a WAIT's ticks end where the whole WAIT does, and every other micro-operation is one tick (R28, R29,
R250). -/
theorem microOpStepIsTheRunOfItsTicks : Obligations.MicroOpStepIsTheRunOfItsTicks := by
  intro s op ts hr hop
  have hone {u : Turn} (hu : takeTurn u (s.withTurns (u :: ts)).nextMoment =
      .next ((s.withTurns (u :: ts)).nextMoment.finishOp op)) :
      runSteps 1 (s.withTurns (u :: ts)) = .next ((s.withTurns (u :: ts)).nextMoment.finishOp op) :=
    runSteps_next (n := 0) ((step_cons (s := s.withTurns (u :: ts)) rfl).trans hu)
  have hseq := hone (u := .seq) (takeTurn_seq_of_getElem? hr hop)
  have htick (hlast : s.ticksLeft op = 1) := hone (u := .clk) (takeTurn_clk_of_last hr hop hlast.le)
  cases op with
  | wait site =>
    obtain ⟨n, hn⟩ : ∃ n, max 1 (s.ticksLeft (.wait site)) = n + 1 := ⟨_, (Nat.sub_add_cancel (by omega)).symm⟩
    rw [hn]
    refine ⟨_, _, hseq, runSteps_clk_wait (s := s.withTurns _) hr hop hn rfl, ?_⟩
    rw [State.finishOp_fields, State.finishOp_fields]
    rfl
  | release l | driveLow l | clearLatch l | sampleAck d => exact ⟨_, _, hseq, htick rfl, rfl⟩

/-- Settles O26: the wire model's branches, and the emulation invariant rules the first out (R39, R112). -/
theorem wireModel : Obligations.WireModel := by
  intro s l
  refine ⟨fun hinv hinit => (hinv.emulation hinit).not_contends l, fun hc => if_pos hc, fun ⟨hdir, hlatch⟩ => ?_,
    State.wire_of_input, fun ⟨hdir, hlatch, hext⟩ => ?_⟩
  · rw [State.wire_of_latch_low hlatch, hdir]; rfl
  · simp [State.wire, hdir, hlatch, hext]

/-- Settles O43: every field of `State.reset` and the two RELEASED lines and BUSY in STATUS (R32, R42). -/
theorem resetValues : Obligations.ResetValues := by
  refine ⟨rfl, rfl, rfl, rfl, rfl, rfl, rfl, rfl, rfl, rfl, ?_⟩
  rw [regRead_status rfl]
  rfl

end Sys2Proof
end

section
/-! PROOF. The byte sequence as its eight bits and the ACK cycle (R150), what the expansions hold at each index, how
long they take and what they ask of the pin port, and obligations O15, O16, O25 and O38 (R170, R175, R250). -/

namespace Sys2Proof.Machine

/-! ### A byte bit by bit -/

/-- The bits of a byte in the order they go out (R52, R150). -/
def wireBits (v : Byte) : List Bool := [0, 1, 2, 3, 4, 5, 6, 7].map (wireBit v)

/-- The micro-operations of a list of data bits (R150). -/
def bitSeqs (bs : List Bool) : List MicroOp := (bs.map bitSeq).flatten

@[simp] theorem bitSeqs_cons (b : Bool) (bs : List Bool) : bitSeqs (b :: bs) = bitSeq b ++ bitSeqs bs := rfl

theorem dataBits_eq_bitSeqs (v : Byte) : dataBits v = bitSeqs (wireBits v) := rfl

theorem byteSeq_eq_bitSeqs_append (v : Byte) (d : Dest) : byteSeq v d = bitSeqs (wireBits v) ++ ackSeq d := rfl

theorem length_bitSeq (b : Bool) : (bitSeq b).length = 6 := rfl

theorem wireBits_getElem? (v : Byte) {k : Nat} (hk : k < 8) : (wireBits v)[k]? = some (wireBit v k) := by
  have hrange : [0, 1, 2, 3, 4, 5, 6, 7] = List.range 8 := by decide
  rw [wireBits, hrange, List.getElem?_map, List.getElem?_range hk, Option.map_some]

/-- The `j`-th micro-operation of the `k`-th bit stands at `6 * k + j` (R150). -/
theorem bitSeqs_getElem? {bs : List Bool} {k j : Nat} {b : Bool} (hk : bs[k]? = some b) (hj : j < 6) :
    (bitSeqs bs)[6 * k + j]? = (bitSeq b)[j]? := by
  induction bs generalizing k with
  | nil => cases hk
  | cons c bs ih =>
    rw [bitSeqs_cons]
    cases k with
    | zero =>
      cases hk
      rw [Nat.mul_zero, Nat.zero_add, List.getElem?_append_left (by rwa [length_bitSeq])]
    | succ k =>
      have hindex : 6 * (k + 1) + j - (bitSeq c).length = 6 * k + j := by rw [length_bitSeq]; omega
      rw [List.getElem?_append_right (by rw [length_bitSeq]; omega), hindex]
      exact ih hk

theorem byteSeq_getElem? (v : Byte) (d : Dest) {k j : Nat} (hk : k < 8) (hj : j < 6) :
    (byteSeq v d)[6 * k + j]? = (bitSeq (wireBit v k))[j]? := by
  rw [byteSeq_eq_dataBits_append, List.getElem?_append_left (by rw [length_dataBits]; omega), dataBits_eq_bitSeqs]
  exact bitSeqs_getElem? (wireBits_getElem? v hk) hj

/-- Where the sample goes shows only at index 51 (R150). -/
theorem byteSeq_take_51 (v : Byte) (d : Dest) : (byteSeq v d).take 51 = dataBits v ++ ackPrep := by
  rw [byteSeq_eq_dataBits_append, List.take_append, length_dataBits, List.take_of_length_le (by simp [length_dataBits])]
  rfl

/-! ### Ticks -/

theorem ticksOf_append (p : Params) (ops ops' : List MicroOp) :
    ticksOf p (ops ++ ops') = ticksOf p ops + ticksOf p ops' := by
  simp [ticksOf]

theorem ticksOf_bitSeq (p : Params) (b : Bool) :
    ticksOf p (bitSeq b) = 3 + (p.pDelay.bitSetup + p.pDelay.bitHigh + p.pDelay.bitLow) := by
  have hput : MicroOp.ticks p (putBit b) = 1 := by cases b <;> rfl
  simp only [ticksOf, bitSeq, List.map_cons, List.map_nil, List.sum_cons, List.sum_nil, hput]
  simp only [MicroOp.ticks, Delays.at]
  omega

theorem ticksOf_bitSeqs (p : Params) (bs : List Bool) :
    ticksOf p (bitSeqs bs) = bs.length * (3 + (p.pDelay.bitSetup + p.pDelay.bitHigh + p.pDelay.bitLow)) := by
  induction bs with
  | nil => rw [List.length_nil, Nat.zero_mul]; rfl
  | cons b bs ih => rw [bitSeqs_cons, ticksOf_append, ticksOf_bitSeq, ih, List.length_cons, Nat.succ_mul, Nat.add_comm]

theorem ticksOf_ackSeq (p : Params) (d : Dest) : ticksOf p (ackSeq d) = 4 + p.pDelay.ackSetup := by
  simp only [ticksOf, ackSeq, List.map_cons, List.map_nil, List.sum_cons, List.sum_nil, MicroOp.ticks, Delays.at]
  omega

/-- A byte's ticks, whatever its bits and wherever its sample goes (R250). -/
theorem ticksOf_byteSeq (p : Params) (v : Byte) (d : Dest) :
    ticksOf p (byteSeq v d) =
      28 + 8 * (p.pDelay.bitSetup + p.pDelay.bitHigh + p.pDelay.bitLow) + p.pDelay.ackSetup := by
  have hlen : (wireBits v).length = 8 := rfl
  rw [byteSeq_eq_bitSeqs_append, ticksOf_append, ticksOf_bitSeqs, ticksOf_ackSeq, hlen]
  omega

theorem ticksOf_startSeq (p : Params) : ticksOf p startSeq = 2 + p.pDelay.start1 + p.pDelay.start2 := by
  simp only [ticksOf, startSeq, List.map_cons, List.map_nil, List.sum_cons, List.sum_nil, MicroOp.ticks, Delays.at]
  omega

theorem ticksOf_stopSeq (p : Params) : ticksOf p stopSeq = 2 + p.pDelay.stop1 + p.pDelay.stop2 := by
  simp only [ticksOf, stopSeq, List.map_cons, List.map_nil, List.sum_cons, List.sum_nil, MicroOp.ticks, Delays.at]
  omega

theorem ticksOf_rstartSeq (p : Params) :
    ticksOf p rstartSeq = 3 + p.pDelay.rstart1 + p.pDelay.rstart2 + p.pDelay.rstart3 := by
  simp only [ticksOf, rstartSeq, List.map_cons, List.map_nil, List.sum_cons, List.sum_nil, MicroOp.ticks, Delays.at]
  omega

/-! ### Pin actions -/

/-- The pin port does not see where a sample goes (R108). -/
theorem byteSeq_map_act (p : Params) (v : Byte) (d d' : Dest) :
    (byteSeq v d).map (MicroOp.act p) = (byteSeq v d').map (MicroOp.act p) := by
  rw [byteSeq_eq_dataBits_append, byteSeq_eq_dataBits_append, List.map_append, List.map_append]
  rfl

end Sys2Proof.Machine

namespace Sys2Proof

open Machine

/-- Settles O15: BYTE_SEQ is loaded, and bit `k` and its pulse stand from `6 * k` on, the ACK cycle from 48 (R150). -/
theorem wrbLoadsTheByteSequence : Obligations.WrbLoadsTheByteSequence := by
  intro s v hb
  refine ⟨byteSeq v .nackField, exec_of_idle hb (.wrb v), length_byteSeq v _, fun k hk => ?_, rfl, rfl, rfl, rfl, rfl⟩
  have hat {j : Nat} (hj : j < 6) := byteSeq_getElem? v .nackField hk hj
  exact ⟨hat (j := 0) (by decide), hat (j := 1) (by decide), hat (j := 2) (by decide), hat (j := 3) (by decide),
    hat (j := 4) (by decide), hat (j := 5) (by decide)⟩

/-- Settles O16: TXN_SEQ is loaded, its four parts stand one after another, and the two samples go where
P_REPORT_TXN_NACK says (R170, R171). -/
theorem wrdevLoadsTheTransaction : Obligations.WrdevLoadsTheTransaction := by
  intro s d hb
  have haddr : s.addr.setWidth 8 <<< 1 = addrByte s.addr := by rw [addrByte_eq_shiftLeft_or, BitVec.or_zero]
  have hsample (d' : Dest) (j : Nat) := txnSeq_sampleAck_iff s.params.pReportTxnNack s.addr d d' j
  refine ⟨txnSeq s.params.pReportTxnNack s.addr d, exec_of_idle hb (.wrdev d), rfl, rfl, rfl, ?_, ?_,
    (hsample _ 55).mpr (.inl ⟨rfl, ?_⟩), rfl, (hsample _ 108).mpr (.inr ⟨rfl, ?_⟩), rfl⟩
  · rw [haddr, byteSeq_take_51]
    rfl
  · rw [byteSeq_take_51]
    rfl
  · cases s.params.pReportTxnNack <;> rfl
  · cases s.params.pReportTxnNack <;> rfl

/-- Settles O25: each sequence is the sum of its parts, and a byte is eight bits of three ticks and three delays and the
ACK cycle (R250). -/
theorem sequenceDurations : Obligations.SequenceDurations := by
  intro p addr v
  refine ⟨rfl, ticksOf_startSeq p, ticksOf_stopSeq p, ticksOf_rstartSeq p, ticksOf_byteSeq p v _, ?_⟩
  simp only [expand, txnSeq, ticksOf_append, ticksOf_startSeq, ticksOf_stopSeq, ticksOf_byteSeq]
  omega

/-- Settles O38: the four parts of a transaction are the four commands' expansions but for where the samples go, and
SEND is their CMD writes (R78, R175). -/
theorem wrdevShowsTheSamePinsAsSend : Obligations.WrdevShowsTheSamePinsAsSend := by
  intro p report a d
  constructor
  · simp only [expand, txnSeq, List.map_append, byteSeq_map_act p _ _ .nackField]
  · have himm (v : Byte) : imm8Ok v.toNat = true := decide_eq_true v.isLt
    have hwf : Stmt.wf (.send (addrByte a).toNat d.toNat) = true := by rw [Stmt.wf, himm, himm, Bool.and_self]
    rw [assembleStmt_of_wf hwf]
    simp only [stmtAccesses, cmdAccess, BitVec.ofNat_toNat, BitVec.setWidth_eq]

end Sys2Proof
end

section
/-! PROOF. The lines along a list of micro-operations, the bits it presents under the emulation invariant, and
obligations O32, O34 and O36 (R116, R154, R156, R174). -/

namespace Sys2Proof.Machine

/-! ### The lines along a list of micro-operations -/

/-- The lines a list of micro-operations leaves when it is entered with these (R22). -/
def linesAfter (ops : List MicroOp) (ln : PerLine LineState) : PerLine LineState :=
  ⟨(lastDrive .scl ops).getD ln.scl, (lastDrive .sda ops).getD ln.sda⟩

theorem linesAfter_get (ops : List MicroOp) (ln : PerLine LineState) (l : Line) :
    (linesAfter ops ln).get l = (lastDrive l ops).getD (ln.get l) := by
  cases l <;> rfl

theorem linesAfter_append (ops ops' : List MicroOp) (ln : PerLine LineState) :
    linesAfter (ops ++ ops') ln = linesAfter ops' (linesAfter ops ln) :=
  PerLine.ext_get fun l => by
    rw [linesAfter_get, linesAfter_get, linesAfter_get, lastDrive_append]
    cases lastDrive l ops' <;> rfl

theorem linesAfter_cons (op : MicroOp) (ops : List MicroOp) (ln : PerLine LineState) :
    linesAfter (op :: ops) ln = linesAfter ops (linesAfter [op] ln) :=
  linesAfter_append [op] ops ln

theorem perform_line_eq_linesAfter (op : MicroOp) (s : State) : (perform op s).line = linesAfter [op] s.line :=
  PerLine.ext_get fun l => by rw [perform_line, linesAfter_get]

@[simp] theorem linesAfter_ackSeq (d : Dest) (ln : PerLine LineState) :
    linesAfter (ackSeq d) ln = ⟨.drivenLow, .released⟩ := rfl

/-- However a byte is entered, it leaves SCL low and SDA released (R152). -/
@[simp] theorem linesAfter_byteSeq (v : Byte) (d : Dest) (ln : PerLine LineState) :
    linesAfter (byteSeq v d) ln = ⟨.drivenLow, .released⟩ := by
  rw [byteSeq_eq_dataBits_append, linesAfter_append, linesAfter_ackSeq]

theorem linesAfter_bitSeq_scl (b : Bool) (ln : PerLine LineState) : (linesAfter (bitSeq b) ln).scl = .drivenLow := by
  cases b <;> rfl

/-! ### The bits presented -/

/-- SDA's levels at SCL's rising edges in a list of micro-operations entered with these lines, as LINE alone gives them:
the bits presented when no device holds a wire (R114, R116). -/
def risingLevels : List MicroOp → PerLine LineState → List Level
  | [], _ => []
  | op :: ops, ln =>
    (if op = .release .scl ∧ ln.scl = .drivenLow then [ln.sda.level] else []) ++ risingLevels ops (linesAfter [op] ln)

theorem risingLevels_append (ops ops' : List MicroOp) (ln : PerLine LineState) :
    risingLevels (ops ++ ops') ln = risingLevels ops ln ++ risingLevels ops' (linesAfter ops ln) := by
  induction ops generalizing ln with
  | nil => rfl
  | cons op ops ih =>
    rw [List.cons_append, risingLevels, ih, ← linesAfter_cons, ← List.append_assoc, risingLevels]

/-- SCL's wire rises over a micro-operation by RELEASE(SCL) from DRIVEN_LOW only (R114, R116). -/
theorem bitPresented_perform {s : State} (h : Emulation s) (hscl : s.extLow.scl = false) (op : MicroOp) :
    bitPresented s (perform op s) =
      if op = .release .scl ∧ s.line.scl = .drivenLow then some (s.line.sda.level && !s.extLow.sda) else none := by
  have hext : s.extLow.get .scl = false := hscl
  rw [bitPresented, sclRising, h.wire, (h.perform op).wire, (h.perform op).wire, perform_extLow, perform_line,
    perform_line, hext]
  by_cases hop : op = .release .scl
  · subst hop
    cases hline : s.line.scl <;> simp [lastDrive, PerLine.get_scl, PerLine.get_sda, LineState.level, hline]
  · rw [lastDrive_singleton, if_neg hop]
    cases hline : s.line.get .scl <;> split <;> simp [LineState.level, hop]

/-- With no device on SCL the bits presented are SDA's levels at the rising edges, 0 where a device holds SDA (R154). -/
theorem Emulation.bitsPresented_eq {s : State} (h : Emulation s) (hscl : s.extLow.scl = false) (ops : List MicroOp) :
    bitsPresented ops s = (risingLevels ops s.line).map (· && !s.extLow.sda) := by
  induction ops generalizing s with
  | nil => rfl
  | cons op ops ih =>
    rw [bitsPresented, bitPresented_perform h hscl, ih (h.perform op) (by rwa [perform_extLow]), perform_extLow,
      perform_line_eq_linesAfter, risingLevels, List.map_append]
    split <;> rfl

/-! ### The bits of a byte -/

section
variable {ln : PerLine LineState}

theorem risingLevels_bitSeq (b : Bool) (h : ln.scl = .drivenLow) : risingLevels (bitSeq b) ln = [b] := by
  obtain ⟨scl, sda⟩ := ln
  cases h
  cases b <;> rfl

theorem risingLevels_bitSeq_of_released (b : Bool) (h : ln.scl = .released) : risingLevels (bitSeq b) ln = [] := by
  obtain ⟨scl, sda⟩ := ln
  cases h
  cases b <;> rfl

/-- Each data bit has its own pulse (R150, R156). -/
theorem risingLevels_bitSeqs_append (bs : List Bool) (ops : List MicroOp) (h : ln.scl = .drivenLow) :
    ∃ ln' : PerLine LineState, ln'.scl = .drivenLow ∧
      risingLevels (bitSeqs bs ++ ops) ln = bs ++ risingLevels ops ln' := by
  induction bs generalizing ln with
  | nil => exact ⟨ln, h, rfl⟩
  | cons b bs ih =>
    obtain ⟨ln', hlow, hbits⟩ := ih (linesAfter_bitSeq_scl b ln)
    refine ⟨ln', hlow, ?_⟩
    rw [bitSeqs_cons, List.append_assoc, risingLevels_append, risingLevels_bitSeq b h, hbits]
    rfl

theorem risingLevels_ackSeq (d : Dest) (h : ln.scl = .drivenLow) : risingLevels (ackSeq d) ln = [true] := by
  obtain ⟨scl, sda⟩ := ln
  cases h
  rfl

theorem risingLevels_bits_ack (bs : List Bool) (d : Dest) (h : ln.scl = .drivenLow) :
    risingLevels (bitSeqs bs ++ ackSeq d) ln = bs ++ [true] := by
  obtain ⟨ln', hlow, hbits⟩ := risingLevels_bitSeqs_append bs (ackSeq d) h
  rw [hbits, risingLevels_ackSeq d hlow]

theorem risingLevels_byteSeq (v : Byte) (d : Dest) (h : ln.scl = .drivenLow) :
    risingLevels (byteSeq v d) ln = wireBits v ++ [true] :=
  risingLevels_bits_ack (wireBits v) d h

/-- Entered with SCL RELEASED the first pulse has no rising edge (R243). -/
theorem risingLevels_byteSeq_of_released (v : Byte) (d : Dest) (h : ln.scl = .released) :
    risingLevels (byteSeq v d) ln = (wireBits v).tail ++ [true] := by
  have hsplit : byteSeq v d = bitSeq (wireBit v 0) ++ (bitSeqs (wireBits v).tail ++ ackSeq d) := rfl
  rw [hsplit, risingLevels_append, risingLevels_bitSeq_of_released _ h,
    risingLevels_bits_ack _ d (linesAfter_bitSeq_scl _ ln), List.nil_append]

end

/-! ### The pulses of a byte -/

theorem sclPulses_bitSeqs_append (bs : List Bool) (ops : List MicroOp) :
    sclPulses (bitSeqs bs ++ ops) .drivenLow false = bs.length + sclPulses ops .drivenLow false := by
  induction bs with
  | nil => exact (Nat.zero_add _).symm
  | cons b bs ih =>
    have hone (ops : List MicroOp) :
        sclPulses (bitSeq b ++ ops) .drivenLow false = 1 + sclPulses ops .drivenLow false := by cases b <;> rfl
    rw [bitSeqs_cons, List.append_assoc, hone, ih, List.length_cons]
    omega

theorem count_scl_bitSeqs (bs : List Bool) :
    (bitSeqs bs).count (.release .scl) = bs.length ∧ (bitSeqs bs).count (.driveLow .scl) = bs.length := by
  induction bs with
  | nil => exact ⟨rfl, rfl⟩
  | cons b bs ih =>
    have hone : (bitSeq b).count (.release .scl) = 1 ∧ (bitSeq b).count (.driveLow .scl) = 1 := by revert b; decide
    rw [bitSeqs_cons, List.count_append, List.count_append, hone.1, hone.2, ih.1, ih.2, List.length_cons, Nat.add_comm]
    exact ⟨rfl, rfl⟩

/-! ### A transaction from bus idle -/

/-- The address byte goes out as the seven address bits and the direction bit 0 (R171). -/
theorem wireBits_addrByte (a : Addr7) :
    wireBits (addrByte a) =
      [a.getLsbD 6, a.getLsbD 5, a.getLsbD 4, a.getLsbD 3, a.getLsbD 2, a.getLsbD 1, a.getLsbD 0, false] := by
  simp [wireBits, wireBit, addrByte_eq_concat]

theorem risingLevels_txnSeq (report : Bool) (a : Addr7) (d : Byte) :
    risingLevels (txnSeq report a d) ⟨.released, .released⟩ =
      wireBits (addrByte a) ++ [true] ++ (wireBits d ++ [true]) ++ [true] := by
  have hstart : linesAfter startSeq ⟨.released, .released⟩ = ⟨.drivenLow, .drivenLow⟩ := rfl
  rw [txnSeq, risingLevels_append, risingLevels_append, risingLevels_append, linesAfter_append, linesAfter_append,
    linesAfter_byteSeq, linesAfter_byteSeq, hstart, risingLevels_byteSeq _ _ rfl, risingLevels_byteSeq _ _ rfl]
  rfl

/-- Only RSTART_SEQ waits at its delay sites (R136). -/
theorem wait_rstart1_notMem_txnSeq (report : Bool) (a : Addr7) (d : Byte) :
    .wait .rstart1 ∉ txnSeq report a d := by
  have hbyte (v : Byte) (d' : Dest) : .wait .rstart1 ∉ byteSeq v d' := by
    intro hmem
    obtain hbits | hack := List.mem_append.mp hmem
    · obtain ⟨ops, hops, hmem⟩ := List.mem_flatten.mp hbits
      obtain ⟨k, -, rfl⟩ := List.mem_map.mp hops
      cases hb : wireBit v k <;> simp [bitSeq, putBit, hb] at hmem
    · simp [ackSeq] at hack
  simp [txnSeq, hbyte, startSeq, stopSeq]

end Sys2Proof.Machine

namespace Sys2Proof

open Machine

/-- Settles O32: under the emulation invariant the bits presented are LINE's levels of SDA at the nine rising edges
(R154). -/
theorem wrbPresentsItsBitsMsbFirst : Obligations.WrbPresentsItsBitsMsbFirst := by
  intro s v d hem hlow hscl
  rw [hem.bitsPresented_eq hscl, risingLevels_byteSeq v d hlow]
  rfl

/-- Settles O34: one pulse, one RELEASE(SCL) and one DRIVE_LOW(SCL) for each data bit and one for the ACK cycle; the
first makes no rising edge when SCL is RELEASED (R156, R243). -/
theorem wrbTogglesSclNineTimes : Obligations.WrbTogglesSclNineTimes := by
  refine ⟨fun v d => ?_, fun s v d hem hrel hscl => ?_⟩
  · obtain ⟨hrelease, hdrive⟩ := count_scl_bitSeqs (wireBits v)
    rw [byteSeq_eq_bitSeqs_append, sclPulses_bitSeqs_append, List.count_append, List.count_append, hrelease, hdrive]
    exact ⟨rfl, rfl, rfl⟩
  · rw [hem.bitsPresented_eq hscl, risingLevels_byteSeq_of_released v d hrel]
    rfl

/-- Settles O36: from bus idle DRIVE_LOW(SDA) is a START condition, the rising edges are those of the two bytes and of
STOP, and no RSTART_SEQ stands in the transaction (R174). -/
theorem wrdevPresentsAddressThenData : Obligations.WrdevPresentsAddressThenData := by
  intro s report a d hem hidle
  obtain ⟨⟨⟨⟨hscl, hsda⟩, -⟩, -⟩, hq⟩ :
      (((s.line.get .scl = .released ∧ s.line.get .sda = .released) ∧ s.wire .scl = true) ∧ s.wire .sda = true) ∧
        s.quietBus = true := by
    simpa [State.busIdle, State.lineRel_eq_decide] using hidle
  have hline : s.line = ⟨.released, .released⟩ := PerLine.ext_get fun l => by
    cases l with
    | scl => exact hscl
    | sda => exact hsda
  refine ⟨fun hprog hpc hr => ?_, ?_, fun n hn => ?_⟩
  · have hop : s.prog[s.pc]? = some (.driveLow .sda) := by rw [hprog, hpc]; rfl
    exact ⟨_, takeTurn_seq_of_getElem? hr hop, (hem.startCondition_finishOp_iff hq _).mpr ⟨rfl, hscl, hsda⟩⟩
  · rw [hem.bitsPresented_eq (State.extLow_of_quietBus hq .scl), hline, risingLevels_txnSeq, wireBits_addrByte,
      show s.extLow.sda = false from State.extLow_of_quietBus hq .sda]
    simp [wireBits, wireBit]
  · have hmem : .wait .rstart1 ∈ ((txnSeq report a d).drop n).take 6 := by rw [hn]; decide
    exact wait_rstart1_notMem_txnSeq report a d (List.mem_of_mem_drop (List.mem_of_mem_take hmem))

end Sys2Proof
end

section
/-! PROOF. The wires over one micro-operation of a running command or of INIT (R112, R114, R116), and obligations O30,
O31, O33, O35, O37 and O46 (R134, R137, R154, R157, R174, R233). -/

namespace Sys2Proof.Machine

/-! ### The wires over the end of a micro-operation -/

/-- A wire depends on its pad, what devices hold and the moment only (R112). -/
theorem State.wire_congr {s t : State} {l : Line} (hdir : t.padDir.get l = s.padDir.get l)
    (hlatch : t.padLatch.get l = s.padLatch.get l) (hext : t.extLow = s.extLow) (hmoment : t.moment = s.moment) :
    t.wire l = s.wire l := by
  rw [State.wire, State.wire, hdir, hlatch, hext, hmoment]

@[simp] theorem State.finishOp_wire (s : State) (op : MicroOp) (l : Line) :
    (s.finishOp op).wire l = (perform op s).wire l :=
  State.wire_congr (by rw [State.finishOp_padDir]) (by rw [State.finishOp_padLatch]) (by simp) (by simp)

theorem bitPresented_finishOp {s : State} (h : Emulation s) (hscl : s.extLow.scl = false) (op : MicroOp) :
    bitPresented s (s.finishOp op) =
      if op = .release .scl ∧ s.line.scl = .drivenLow then some (s.line.sda.level && !s.extLow.sda) else none := by
  rw [← bitPresented_perform h hscl, bitPresented, bitPresented, sclRising, sclRising, State.finishOp_wire,
    State.finishOp_wire]

/-- SDA can rise only by RELEASE(SDA), so a STOP condition is that from DRIVEN_LOW with SCL RELEASED (R116). -/
theorem Emulation.stopCondition_finishOp_iff {s : State} (h : Emulation s) (hq : s.quietBus = true) (op : MicroOp) :
    stopCondition s (s.finishOp op) = true ↔
      op = .release .sda ∧ s.line.get .scl = .released ∧ s.line.get .sda = .drivenLow := by
  simp only [stopCondition, h.wire_of_quietBus hq, h.finishOp_wire_of_quietBus hq, lastDrive_singleton]
  by_cases hop : op = .release .sda
  · subst hop
    cases s.line.get .scl <;> cases s.line.get .sda <;> simp [LineState.level]
  · cases s.line.get .sda <;> by_cases hlow : op = .driveLow .sda <;> simp [LineState.level, hop, hlow]

/-! ### Facts along an expansion -/

/-- `P` holds of every micro-operation of a list and the lines it finds, the list entered with these lines. -/
def HoldsAlong (P : PerLine LineState → MicroOp → Prop) : List MicroOp → PerLine LineState → Prop
  | [], _ => True
  | op :: ops, ln => P ln op ∧ HoldsAlong P ops (linesAfter [op] ln)

section
variable {P : PerLine LineState → MicroOp → Prop}

theorem holdsAlong_append {ops ops' : List MicroOp} {ln : PerLine LineState} :
    HoldsAlong P (ops ++ ops') ln ↔ HoldsAlong P ops ln ∧ HoldsAlong P ops' (linesAfter ops ln) := by
  induction ops generalizing ln with
  | nil => exact (iff_of_eq (true_and _)).symm
  | cons op ops ih => rw [List.cons_append, HoldsAlong, ih, HoldsAlong, linesAfter_cons op ops, and_assoc]

theorem HoldsAlong.mono {Q : PerLine LineState → MicroOp → Prop} (himp : ∀ ln op, P ln op → Q ln op)
    {ops : List MicroOp} {ln : PerLine LineState} (h : HoldsAlong P ops ln) : HoldsAlong Q ops ln := by
  induction ops generalizing ln with
  | nil => trivial
  | cons op ops ih => exact ⟨himp ln op h.1, ih h.2⟩

theorem HoldsAlong.getElem? {ops : List MicroOp} {ln : PerLine LineState} (h : HoldsAlong P ops ln) {j : Nat}
    {op : MicroOp} (hop : ops[j]? = some op) : P (linesAfter (ops.take j) ln) op := by
  induction ops generalizing ln j with
  | nil => cases hop
  | cons op' ops ih =>
    cases j with
    | zero => cases hop; exact h.1
    | succ j =>
      rw [List.take_succ_cons, linesAfter_cons]
      exact ih h.2 hop

end

section
variable {s : State} (hinv : Inv s)
include hinv

/-- LINE is what the run part of the expansion makes of it (R22). -/
theorem Inv.linesAfter_take : linesAfter (s.prog.take s.pc) s.line = s.line :=
  PerLine.ext_get fun l => by
    rw [linesAfter_get]
    cases hv : lastDrive l (s.prog.take s.pc) with
    | none => rfl
    | some v => exact (hinv.lineDriven l v hv).symm

/-- Past a part of the expansion a fact along the rest holds at `SEQ.pc`. -/
theorem Inv.of_holdsAlong {P : PerLine LineState → MicroOp → Prop} {before rest : List MicroOp} {op : MicroOp}
    (hprog : s.prog = before ++ rest) (hpc : before.length ≤ s.pc) (hop : s.prog[s.pc]? = some op)
    (h : HoldsAlong P rest (linesAfter before s.line)) : P s.line op := by
  have hline := hinv.linesAfter_take
  rw [hprog, List.getElem?_append_right hpc] at hop
  rw [hprog, List.take_append, List.take_of_length_le hpc, linesAfter_append] at hline
  exact hline ▸ h.getElem? hop

end

/-! ### STOP and RSTART -/

theorem stopSeq_release_sda_iff {k : Nat} {op : MicroOp} (h : stopSeq[k]? = some op) :
    op = .release .sda ↔ k = 2 := by
  match k with
  | 0 | 1 | 2 | 3 => cases h; decide
  | k + 4 => cases h

theorem rstartSeq_driveLow_sda_iff {k : Nat} {op : MicroOp} (h : rstartSeq[k]? = some op) :
    op = .driveLow .sda ↔ k = 2 := by
  match k with
  | 0 | 1 | 2 | 3 | 4 | 5 => cases h; decide
  | k + 6 => cases h

/-- RELEASE(SCL) on a quiet bus presents SDA's line when SCL was DRIVEN_LOW (R116). -/
theorem Emulation.bitPresented_release_scl {s : State} (h : Emulation s) (hq : s.quietBus = true) :
    bitPresented s (s.finishOp (.release .scl)) =
      if s.line.scl = .drivenLow then some (decide (s.line.sda = .released)) else none := by
  rw [bitPresented_finishOp h (State.extLow_of_quietBus hq .scl),
    show s.extLow.sda = false from State.extLow_of_quietBus hq .sda, LineState.level_eq_decide]
  simp

/-- RELEASE of a RELEASED line changes no wire of a quiet bus (R114). -/
theorem Emulation.wire_release_of_released {s : State} (h : Emulation s) (hq : s.quietBus = true) {k : Line}
    (hk : s.line.get k = .released) (l : Line) : (s.finishOp (.release k)).wire l = s.wire l := by
  refine h.finishOp_wire_eq hq ?_
  rw [lastDrive_singleton]
  by_cases hkl : k = l
  · rw [if_pos (congrArg _ hkl), Option.getD_some, ← hkl, hk]
  · rw [if_neg (by simpa using hkl), if_neg nofun, Option.getD_none]

/-! ### SDA in a running byte -/

/-- The micro-operation commands SDA only while SCL is low. -/
def SdaMovesLow (ln : PerLine LineState) (op : MicroOp) : Prop := lastDrive .sda [op] ≠ none → ln.scl = .drivenLow

theorem sdaMovesLow_bitSeq_tail (b : Bool) (ln : PerLine LineState) : HoldsAlong SdaMovesLow (bitSeq b).tail ln :=
  ⟨nofun, nofun, nofun, nofun, nofun, trivial⟩

theorem sdaMovesLow_bitSeq (b : Bool) {ln : PerLine LineState} (h : ln.scl = .drivenLow) :
    HoldsAlong SdaMovesLow (bitSeq b) ln :=
  ⟨fun _ => h, sdaMovesLow_bitSeq_tail b _⟩

theorem sdaMovesLow_bits_ack (bs : List Bool) (d : Dest) {ln : PerLine LineState} (h : ln.scl = .drivenLow) :
    HoldsAlong SdaMovesLow (bitSeqs bs ++ ackSeq d) ln := by
  induction bs generalizing ln with
  | nil => exact ⟨fun _ => h, nofun, nofun, nofun, nofun, trivial⟩
  | cons b bs ih =>
    rw [bitSeqs_cons, List.append_assoc, holdsAlong_append]
    exact ⟨sdaMovesLow_bitSeq b h, ih (linesAfter_bitSeq_scl b ln)⟩

theorem sdaMovesLow_byteSeq (v : Byte) (d : Dest) {ln : PerLine LineState} (h : ln.scl = .drivenLow) :
    HoldsAlong SdaMovesLow (byteSeq v d) ln :=
  sdaMovesLow_bits_ack (wireBits v) d h

/-- From its second micro-operation on a byte does so however it was entered: its first pulse ends in DRIVE_LOW(SCL)
before SDA is commanded again (R150). -/
theorem sdaMovesLow_byteSeq_tail (v : Byte) (d : Dest) (ln : PerLine LineState) :
    HoldsAlong SdaMovesLow (byteSeq v d).tail ln := by
  have hsplit : (byteSeq v d).tail = (bitSeq (wireBit v 0)).tail ++ (bitSeqs (wireBits v).tail ++ ackSeq d) := rfl
  have hlow : (linesAfter (bitSeq (wireBit v 0)).tail ln).scl = .drivenLow := rfl
  rw [hsplit, holdsAlong_append]
  exact ⟨sdaMovesLow_bitSeq_tail _ ln, sdaMovesLow_bits_ack _ d hlow⟩

section
variable {s : State} {v : Byte} {d : Dest} {op : MicroOp} (hinv : Inv s) (hop : s.prog[s.pc]? = some op)
include hinv hop

theorem Inv.sdaMovesLow_of_byteSeq (hprog : s.prog = byteSeq v d) (hentry : s.pc = 0 → s.line.scl = .drivenLow) :
    SdaMovesLow s.line op := by
  rcases Nat.eq_zero_or_pos s.pc with hpc | hpc
  · exact hinv.of_holdsAlong (before := []) hprog (Nat.zero_le _) hop (sdaMovesLow_byteSeq v d (hentry hpc))
  · exact hinv.of_holdsAlong (before := [putBit (wireBit v 0)]) hprog hpc hop (sdaMovesLow_byteSeq_tail v d _)

end

/-- No expansion of a byte is INIT. -/
theorem byteSeq_ne_initSeq (v : Byte) (d : Dest) : byteSeq v d ≠ initSeq := fun h =>
  absurd (congrArg List.length h) (by rw [length_byteSeq]; decide)

/-- At a byte's `k`-th RELEASE(SCL) SDA's line is the bit (R150). -/
theorem Inv.sda_level_at_rising {s : State} {v : Byte} {d : Dest} {k : Nat} (hinv : Inv s)
    (hprog : s.prog = byteSeq v d) (hk : k < 8) (hpc : s.pc = 6 * k + 2) : s.line.sda.level = wireBit v k := by
  have htake : s.prog.take s.pc = (byteSeq v d).take (6 * k) ++ [putBit (wireBit v k), .wait .bitSetup] := by
    have h0 := byteSeq_getElem? v d hk (j := 0) (by decide)
    have h1 := byteSeq_getElem? v d hk (j := 1) (by decide)
    rw [hprog, hpc, List.take_add_one, List.take_add_one, h1, ← Nat.add_zero (6 * k), h0, List.append_assoc]
    rfl
  have hdrive : lastDrive .sda [putBit (wireBit v k), .wait .bitSetup] =
      some (if wireBit v k then .released else .drivenLow) := by
    cases wireBit v k <;> rfl
  have hline := hinv.lineDriven .sda (if wireBit v k then .released else .drivenLow)
    (by rw [htake, lastDrive_append, hdrive, Option.some_or])
  rw [← PerLine.get_sda, hline]
  cases wireBit v k <;> rfl

/-! ### A running transaction -/

/-- The micro-operation is no RELEASE(SDA) from DRIVEN_LOW with SCL RELEASED. -/
def NoStop (ln : PerLine LineState) (op : MicroOp) : Prop :=
  ¬(op = .release .sda ∧ ln.scl = .released ∧ ln.sda = .drivenLow)

theorem SdaMovesLow.noStop (ln : PerLine LineState) (op : MicroOp) (h : SdaMovesLow ln op) : NoStop ln op := by
  rintro ⟨rfl, hscl, -⟩
  cases hscl.symm.trans (h nofun)

/-- Past START_SEQ SDA rises with SCL low in the two bytes, and STOP_SEQ finds it RELEASED already (R174, C2). -/
theorem noStop_txnSeq_drop (report : Bool) (a : Addr7) (d : Byte) :
    HoldsAlong NoStop (byteSeq (addrByte a) (sampleDests report).1 ++ byteSeq d (sampleDests report).2 ++ stopSeq)
      ⟨.drivenLow, .drivenLow⟩ := by
  have hbyte (v : Byte) (d' : Dest) {ln : PerLine LineState} (h : ln.scl = .drivenLow) :
      HoldsAlong NoStop (byteSeq v d') ln := (sdaMovesLow_byteSeq v d' h).mono SdaMovesLow.noStop
  have hstop : HoldsAlong NoStop stopSeq ⟨.drivenLow, .released⟩ := by
    simp [HoldsAlong, NoStop, stopSeq, linesAfter, lastDrive]
  rw [holdsAlong_append, holdsAlong_append, linesAfter_append, linesAfter_byteSeq, linesAfter_byteSeq]
  exact ⟨⟨hbyte _ _ rfl, hbyte _ _ rfl⟩, hstop⟩

/-! ### INIT -/

/-- In each of INIT's micro-operations a line's pad ends as an INPUT or is left as it is (R231). -/
theorem Inv.pad_of_initSeq {s : State} {op : MicroOp} (hinv : Inv s) (hinit : s.prog = initSeq)
    (hop : s.prog[s.pc]? = some op) (l : Line) :
    (perform op s).padDir.get l = .input ∨
      (perform op s).padDir.get l = s.padDir.get l ∧ (perform op s).padLatch.get l = s.padLatch.get l := by
  obtain ⟨-, hscl, hsda, -⟩ := hinv.initProgress hinit
  rw [hinit] at hop
  rw [perform_padDir, perform_padLatch]
  obtain ⟨-, rfl⟩ | ⟨-, rfl⟩ | ⟨hpc, rfl⟩ | ⟨hpc, rfl⟩ := initSeq_getElem? hop
  · cases l <;> simp
  · cases l <;> simp
  · cases l <;> simp [PerLine.get_scl, hscl, hpc]
  · cases l <;> simp [PerLine.get_sda, hsda, hpc]

end Sys2Proof.Machine

namespace Sys2Proof

open Machine

/-- Settles O30: STOP's RELEASE(SCL) and RELEASE(SDA) on a quiet bus; at its index 2 SCL has been RELEASED (R134). -/
theorem stopConditionNeedsSdaLow : Obligations.StopConditionNeedsSdaLow := by
  intro s t hinv hprog hr hq hturn
  obtain ⟨op, hop, rfl⟩ := exists_finishOp_of_takeTurn_seq hr (by simp [hprog, stopSeq]) hturn
  have hem : Emulation s := hinv.emulation (by rw [hprog]; decide)
  have hop' : stopSeq[s.pc]? = some op := hprog ▸ hop
  refine ⟨fun hpc => ?_, fun hpc hscl => ?_, ?_, fun hpc hsda => ?_⟩
  · rw [hpc] at hop'
    cases hop'
    exact hem.bitPresented_release_scl hq
  · rw [hpc] at hop'
    cases hop'
    exact hem.wire_release_of_released hq hscl
  · rw [hem.stopCondition_finishOp_iff hq, stopSeq_release_sda_iff hop']
    refine and_congr_right fun hpc => and_iff_right (hinv.lineDriven .scl .released ?_)
    rw [hprog, hpc]
    rfl
  · rw [hpc] at hop'
    cases hop'
    exact hem.wire_release_of_released hq hsda

/-- Settles O31: RSTART's RELEASE(SCL) and DRIVE_LOW(SDA) on a quiet bus; at index 2 SCL has been RELEASED (R137). -/
theorem rstartConditionNeedsSdaReleased : Obligations.RstartConditionNeedsSdaReleased := by
  intro s t hinv hprog hr hq hturn
  obtain ⟨op, hop, rfl⟩ := exists_finishOp_of_takeTurn_seq hr (by simp [hprog, rstartSeq]) hturn
  have hem : Emulation s := hinv.emulation (by rw [hprog]; decide)
  have hop' : rstartSeq[s.pc]? = some op := hprog ▸ hop
  refine ⟨fun hpc => ?_, ?_⟩
  · rw [hpc] at hop'
    cases hop'
    exact hem.bitPresented_release_scl hq
  · rw [hem.startCondition_finishOp_iff hq, rstartSeq_driveLow_sda_iff hop']
    refine and_congr_right fun hpc => and_iff_right (hinv.lineDriven .scl .released ?_)
    rw [hprog, hpc]
    rfl

/-- Settles O33: the bit is on SDA's line since its PUT_BIT, and RELEASE(SCL) presents it (R154). -/
theorem wrbRisingEdgePresentsTheBit : Obligations.WrbRisingEdgePresentsTheBit := by
  intro s t v d k hinv hprog hk hpc hr hlow hscl hturn
  have hop : s.prog[s.pc]? = some (.release .scl) := by
    rw [hprog, hpc, byteSeq_getElem? v d hk (by decide)]
    rfl
  have hem : Emulation s := hinv.emulation (hprog ▸ byteSeq_ne_initSeq v d)
  obtain rfl : s.finishOp _ = t := Host.Outcome.next.inj ((takeTurn_seq_of_getElem? hr hop).symm.trans hturn)
  rw [bitPresented_finishOp hem hscl, if_pos ⟨rfl, hlow⟩, hinv.sda_level_at_rising hprog hk hpc]
  rfl

/-- Settles O35: a micro-operation that changes SDA's wire commands SDA, which a byte does only while SCL is low
(R157). -/
theorem wrbChangesSdaOnlyWhileSclLow : Obligations.WrbChangesSdaOnlyWhileSclLow := by
  intro s t v d hinv hprog hr hentry hturn hne
  obtain ⟨op, hop, rfl⟩ := exists_finishOp_of_takeTurn_seq hr (by rw [hprog]; exact List.cons_ne_nil _ _) hturn
  have hem : Emulation s := hinv.emulation (hprog ▸ byteSeq_ne_initSeq v d)
  have hmoves : lastDrive .sda [op] ≠ none := fun hnone => hne <| by
    rw [(hem.finishOp op).wire, hem.wire, State.finishOp_line, perform_line, hnone, State.finishOp_extLow]
    rfl
  have hscl : s.line.scl = .drivenLow := hinv.sdaMovesLow_of_byteSeq hop hprog hentry hmoves
  have hscl' : (s.finishOp op).line.get .scl = .drivenLow := by
    have hother : lastDrive .scl [op] = none := by
      cases op with
      | release l | driveLow l => cases l <;> simp [lastDrive] at hmoves ⊢
      | clearLatch l | wait l | sampleAck l => rfl
    rw [State.finishOp_line, perform_line, hother]
    exact hscl
  refine ⟨hscl, hscl', ?_, ?_⟩
  · rw [hem.wire, PerLine.get_scl, hscl]; rfl
  · rw [(hem.finishOp op).wire, hscl']; rfl

/-- Settles O37: a STOP condition is RELEASE(SDA) from DRIVEN_LOW with SCL RELEASED, which past START_SEQ a transaction
does not hold (R174; 90_conflicts.md C2). -/
theorem wrdevMakesNoStopCondition : Obligations.WrdevMakesNoStopCondition := by
  intro s t report a d hinv hprog hpc hr hq hturn
  obtain ⟨op, hop, rfl⟩ := exists_finishOp_of_takeTurn_seq hr (by rw [hprog]; exact List.cons_ne_nil _ _) hturn
  have hem : Emulation s := hinv.emulation (hprog ▸ expand_ne_initSeq report a (.wrdev d))
  have hno : NoStop s.line op :=
    hinv.of_holdsAlong (before := startSeq) hprog hpc hop (noStop_txnSeq_drop report a d)
  exact eq_false_of_ne_true fun hstop => hno ((hem.stopCondition_finishOp_iff hq op).mp hstop)

/-- Settles O46: a pad that INIT turns or has turned to INPUT leaves a high wire to the devices, and no device holds a
high wire outside contention (R112, R233). -/
theorem initNeverPullsAWireLow : Obligations.InitNeverPullsAWireLow := by
  intro s t hinv hprog hr hturn
  obtain ⟨op, hop, rfl⟩ := exists_finishOp_of_takeTurn_seq hr (by simp [hprog, initSeq]) hturn
  have hhigh (l : Line) (hc : ¬s.contends l) (hw : s.wire l = true) : (s.finishOp op).wire l = true := by
    rw [State.finishOp_wire]
    obtain hinput | ⟨hdir, hlatch⟩ := hinv.pad_of_initSeq hprog hop l
    · rw [State.wire_of_input hinput, perform_extLow, State.extLow_of_wire hc hw, Bool.not_false]
    · rw [State.wire_congr hdir hlatch (perform_extLow op s) (perform_moment op s), hw]
  refine ⟨hhigh, fun hc => ?_⟩
  cases hw : s.wire .sda with
  | false => simp [startCondition, hw]
  | true => simp [startCondition, hhigh .sda hc hw]

end Sys2Proof
end

section
/-! PROOF. A loaded program run to its end, under every interleaving and by sequencer turns alone, and obligations O39
and O40 (R60, R64, R132, R135, R138, R152, R170, R177). -/

namespace Sys2Proof.Machine

/-! ### The micro-operations left to run -/

section
variable {s : State} {op : MicroOp} {ops : List MicroOp} (hleft : s.prog.drop s.pc = op :: ops)
include hleft

theorem State.getElem?_of_left : s.prog[s.pc]? = some op := by
  rw [← Nat.add_zero s.pc, ← List.getElem?_drop, hleft]
  rfl

/-- A micro-operation leaves the rest of the expansion to run (R28). -/
theorem State.finishOp_drop : (s.finishOp op).prog.drop (s.finishOp op).pc = ops := by
  have hrest : s.prog.drop (s.pc + 1) = ops := by rw [← List.tail_drop, hleft, List.tail_cons]
  rw [State.finishOp_prog, State.finishOp_pc]
  split
  · next hlast => rw [← hrest, hlast, List.drop_length, List.drop_nil]
  · exact hrest

/-- After the last of them the block is idle (R28). -/
theorem State.finishOp_prog_of_last (hlast : ops = []) : (s.finishOp op).prog = [] := by
  have hlen := congrArg List.length hleft
  have hlt : s.pc < s.prog.length := (List.getElem?_eq_some_iff.mp (State.getElem?_of_left hleft)).1
  rw [List.length_drop, hlast, List.length_singleton] at hlen
  rw [State.finishOp_prog, if_pos (by omega)]

end

/-- With no WAIT begun a micro-operation has all of its ticks left (R250). -/
theorem State.ticksLeft_of_wait_zero {s : State} (hw : s.wait = 0) (op : MicroOp) :
    s.ticksLeft op = op.ticks s.params := by
  cases op with
  | wait site => exact if_pos hw
  | release l | driveLow l | clearLatch l | sampleAck d => rfl

theorem State.finishOp_line_eq_linesAfter (s : State) (op : MicroOp) :
    (s.finishOp op).line = linesAfter [op] s.line := by
  rw [State.finishOp_line, perform_line_eq_linesAfter]

/-! ### Every interleaving -/

/-- The block is out of reset, no WAIT has begun and these micro-operations are left to run; when none is left, the host
may have loaded any other program. -/
def ReadyFor (ops : List MicroOp) (s : State) : Prop :=
  s.rst = false ∧ s.wait = 0 ∧ (ops ≠ [] → s.prog.drop s.pc = ops)

theorem ReadyFor.busy {ops : List MicroOp} {s : State} (h : ReadyFor ops s) (hne : ops ≠ []) : s.busy = true := by
  refine s.busy_eq_true.mpr fun hnil => hne ?_
  rw [← h.2.2 hne, hnil, List.drop_nil]

/-- While a micro-operation is left the block is BUSY, so no access of the host reaches SEQ (R60, R64). -/
theorem ReadyFor.of_hostTurn {ops : List MicroOp} {s t : State} (h : ReadyFor ops s) (ht : hostTurn s = .next t) :
    ReadyFor ops t := by
  obtain ⟨hframe, hseq⟩ := hostTurn_frame ht
  refine ⟨(congrArg State.rst hframe).trans h.1, (congrArg State.wait hframe).trans h.2.1, fun hne => ?_⟩
  obtain ⟨hprog, hpc, -⟩ := hseq (h.busy hne)
  rw [hprog, hpc, h.2.2 hne]

theorem ReadyFor.finishOp {op : MicroOp} {ops : List MicroOp} {s : State} (h : ReadyFor (op :: ops) s) :
    ReadyFor ops (s.finishOp op) := by
  obtain ⟨hr, hw, hleft⟩ := h
  refine ⟨by rwa [State.finishOp_rst], ?_, fun _ => State.finishOp_drop (hleft (List.cons_ne_nil op ops))⟩
  rw [State.finishOp_wait, perform_wait_of_zero hw]

/-- Turns of the host, the sequencer and the environment, with a sequencer turn for each micro-operation left, run just
those (R60, R64, R155, R173). -/
theorem ReadyFor.exists_run {ops : List MicroOp} {ts rest : List Turn} {s : State} (h : ReadyFor ops s)
    (hts : s.turns = ts ++ rest) (hwhole : ∀ t ∈ ts, t.wholeOps = true) (hcount : ts.count .seq = ops.length) :
    ∃ t, runSteps ts.length s = .next t ∧ t.acts = s.acts ++ ops.map (MicroOp.act s.params) ∧
      t.ticks = s.ticks + ticksOf s.params ops ∧ t.line = linesAfter ops s.line := by
  induction ts generalizing s ops with
  | nil =>
    cases List.eq_nil_of_length_eq_zero hcount.symm
    exact ⟨s, rfl, (List.append_nil _).symm, rfl, rfl⟩
  | cons u ts ih =>
    obtain ⟨hu, hwholes⟩ := List.forall_mem_cons.mp hwhole
    have hturns : s.nextMoment.turns = ts ++ rest := congrArg List.tail hts
    have hnext : ReadyFor ops s.nextMoment := h
    rw [List.length_cons]
    cases u with
    | clk | reset b => cases hu
    | env e =>
      rw [List.count_cons_of_ne (show Turn.env e ≠ .seq from nofun)] at hcount
      rw [runSteps_next (step_cons hts)]
      exact ih (s := { s.nextMoment with extLow := e }) hnext hturns hwholes hcount
    | host =>
      rw [List.count_cons_of_ne (show Turn.host ≠ .seq from nofun)] at hcount
      obtain ⟨t, ht⟩ := hostTurn_next s.nextMoment
      have field {α : Type} (f : State → α) := congrArg f (hostTurn_frame ht).1
      obtain ⟨t', hrun, hacts, hticks, hline⟩ :=
        ih (hnext.of_hostTurn ht) ((field (·.turns)).trans hturns) hwholes hcount
      rw [show t.params = s.params from field (·.params)] at hacts hticks
      rw [show t.acts = s.acts from field (·.acts)] at hacts
      rw [show t.ticks = s.ticks from field (·.ticks)] at hticks
      rw [show t.line = s.line from field (·.line)] at hline
      exact ⟨t', (runSteps_next ((step_cons hts).trans ht)).trans hrun, hacts, hticks, hline⟩
    | seq =>
      rw [List.count_cons_self] at hcount
      obtain ⟨op, ops, rfl⟩ := List.exists_cons_of_length_eq_add_one hcount.symm
      have hop := State.getElem?_of_left (hnext.2.2 (List.cons_ne_nil op ops))
      obtain ⟨t', hrun, hacts, hticks, hline⟩ :=
        ih hnext.finishOp ((s.nextMoment.finishOp_turns op).trans hturns) hwholes (Nat.succ.inj hcount)
      rw [State.finishOp_params] at hacts hticks
      rw [State.finishOp_acts, List.append_assoc] at hacts
      rw [State.finishOp_ticks, State.ticksLeft_of_wait_zero hnext.2.1, Nat.add_assoc] at hticks
      rw [State.finishOp_line_eq_linesAfter, ← linesAfter_cons] at hline
      exact ⟨t', (runSteps_next (step_seq_of_getElem? hts h.1 hop)).trans hrun, hacts, hticks, hline⟩

/-! ### Sequencer turns alone -/

/-- As many sequencer turns as there are micro-operations left end the expansion, and reach neither the host's accesses
nor what only the host and reset write (R28, R41). -/
theorem exists_run_of_seq {ops : List MicroOp} {ts : List Turn} {s : State} (hr : s.rst = false)
    (hleft : s.prog.drop s.pc = ops) (hidle : ops = [] → s.prog = [])
    (hts : s.turns = List.replicate ops.length .seq ++ ts) :
    ∃ t, runSteps ops.length s = .next t ∧ t.prog = [] ∧ t.turns = ts ∧ t.host = s.host ∧
      t.line = linesAfter ops s.line ∧ (.sampleAck .nackField ∉ ops → t.nack = s.nack) ∧
      t.errIllegal = s.errIllegal ∧ t.errBusy = s.errBusy ∧ t.addr = s.addr := by
  induction ops generalizing s with
  | nil => exact ⟨s, rfl, hidle rfl, hts, rfl, rfl, fun _ => rfl, rfl, rfl, rfl⟩
  | cons op ops ih =>
    have hleft' : s.nextMoment.prog.drop s.nextMoment.pc = op :: ops := hleft
    have hturns : s.nextMoment.turns = List.replicate ops.length .seq ++ ts := congrArg List.tail hts
    obtain ⟨t, hrun, hprog, hts', hhost, hline, hnack, hillegal, hbusy, haddr⟩ :=
      ih (s := s.nextMoment.finishOp op) (by simpa using hr) (State.finishOp_drop hleft')
        (State.finishOp_prog_of_last hleft') (by simpa using hturns)
    rw [List.length_cons, runSteps_next (step_seq_of_getElem? hts hr (State.getElem?_of_left hleft))]
    refine ⟨t, hrun, hprog, hts', by simpa using hhost, ?_, fun hnot => ?_, by simpa using hillegal,
      by simpa using hbusy, by simpa using haddr⟩
    · rw [hline, State.finishOp_line_eq_linesAfter, ← linesAfter_cons]
      rfl
    · obtain ⟨hne, hnot⟩ := not_or.mp (mt List.mem_cons.mpr hnot)
      rw [hnack hnot, State.finishOp_nack, perform_nack, if_neg (Ne.symm hne)]
      rfl

/-! ### Where each command leaves the lines -/

/-- A transaction ends with STOP_SEQ, which releases both lines (R170). -/
theorem linesAfter_txnSeq (report : Bool) (a : Addr7) (d : Byte) (ln : PerLine LineState) :
    linesAfter (txnSeq report a d) ln = ⟨.released, .released⟩ := by
  rw [txnSeq, linesAfter_append]
  rfl

/-- Only WRB samples into NACK (R151, R172). -/
theorem sampleAck_nackField_notMem_expand {report : Bool} {a : Addr7} {i : Instr} (hi : ∀ v, i ≠ .wrb v) :
    .sampleAck .nackField ∉ expand report a i := by
  cases i with
  | start => simp [expand, startSeq]
  | stop => simp [expand, stopSeq]
  | rstart => simp [expand, rstartSeq]
  | wrb v => exact absurd rfl (hi v)
  | wrdev d => exact sampleAck_nackField_notMem_txnSeq report a d

end Sys2Proof.Machine

namespace Sys2Proof

open Machine

/-- Settles O39: a program just loaded is all left to run, with no WAIT begun (R60, R62, R64). -/
theorem everyInterleavingRunsTheExpansion : Obligations.EveryInterleavingRunsTheExpansion := by
  intro s ts rest hr _ hpc hw hwhole hcount
  have hready : ReadyFor s.prog (s.withTurns (ts ++ rest)) :=
    ⟨hr, hw, fun _ => by rw [State.withTurns_prog, State.withTurns_pc, hpc, List.drop_zero]⟩
  obtain ⟨t, hrun, hacts, hticks, hline⟩ := hready.exists_run rfl hwhole hcount
  exact ⟨t, hrun, hacts, hticks, fun l => by rw [hline, linesAfter_get]; rfl⟩

/-- Settles O40: the CMD write loads the expansion, the sequencer turns run it, and its last commands on each line are
what the lines end as (R132, R135, R138, R152, R170). -/
theorem commandsEndWithTheirLines : Obligations.CommandsEndWithTheirLines := by
  intro s i ts hr hb _
  generalize hprog : expand s.params.pReportTxnNack s.addr i = prog
  have hstep := (step_of_cmd_write (s := s.withAccess (.write 0#2 (encode i)) (List.replicate prog.length .seq ++ ts))
    rfl rfl hr (decodeCmd_encode i)).trans (exec_of_idle (by exact hb) i)
  obtain ⟨t, hrun, hidle, hts, hhost, hline, hnack, hillegal, hbusy, haddr⟩ :=
    exists_run_of_seq (ops := prog) (ts := ts) (s := State.load
      { s with moment := s.moment + 1, turns := List.replicate prog.length .seq ++ ts } i prog)
      hr rfl (fun hnil => hnil) rfl
  refine ⟨t, ?_, t.busy_eq_false.mpr hidle, hts, hhost, ?_, ?_, ?_, ?_, hillegal, hbusy, haddr⟩
  · rw [Nat.add_comm, runSteps_next hstep, ← hrun, ← hprog]
    rfl
  · rintro (rfl | rfl)
    · exact ⟨by rw [hline, ← hprog]; rfl, hnack (hprog ▸ sampleAck_nackField_notMem_expand nofun)⟩
    · exact ⟨by rw [hline, ← hprog]; rfl, hnack (hprog ▸ sampleAck_nackField_notMem_expand nofun)⟩
  · rintro rfl
    exact ⟨by rw [hline, ← hprog]; rfl, hnack (hprog ▸ sampleAck_nackField_notMem_expand nofun)⟩
  · rintro v rfl
    rw [hline, ← hprog]
    exact linesAfter_byteSeq v _ _
  · rintro d rfl
    exact ⟨by rw [hline, ← hprog]; exact linesAfter_txnSeq _ _ d _,
      hnack (hprog ▸ sampleAck_nackField_notMem_expand nofun)⟩

end Sys2Proof
end

section
/-! PROOF. Every turn under another environment and at another moment, the level read on SDA being the same, and
obligations O54 and O55 (R38, R117, R118). -/

namespace Sys2Proof.Machine

/-- The state with what devices hold and the moment changed, and nothing else (R38). -/
def State.mapEnv (f : PerLine Bool → PerLine Bool) (g : Nat → Nat) (s : State) : State :=
  { s with extLow := f s.extLow, moment := g s.moment }

theorem State.withExtScl_eq_mapEnv (s : State) (b : Bool) :
    s.withExtScl b = s.mapEnv (fun e => { e with scl := b }) id := rfl

/-- Two states that differ only in the environment and the moment. -/
theorem State.eq_mapEnv_of_forgetEnv {s s' : State} (h : s.forgetEnv = s'.forgetEnv) :
    s' = s.mapEnv (fun _ => s'.extLow) (fun _ => s'.moment) := by
  have hset : s' = { s'.forgetEnv with extLow := s'.extLow, moment := s'.moment } := rfl
  rw [← h] at hset
  exact hset

section
variable {f : PerLine Bool → PerLine Bool} {g : Nat → Nat} {s t : State}

/-! ### The sequencer -/

section
variable (hlevel : (s.mapEnv f g).readLevel .sda = s.readLevel .sda)
include hlevel

/-- A micro-operation looks at the environment and the moment by READ_LEVEL(SDA) only (R106, R118). -/
theorem perform_mapEnv (op : MicroOp) : perform op (s.mapEnv f g) = (perform op s).mapEnv f g := by
  cases op with
  | sampleAck d =>
    rw [perform_sampleAck, perform_sampleAck, hlevel]
    rfl
  | release l | driveLow l | clearLatch l | wait site => rfl

theorem finishOp_mapEnv (op : MicroOp) : (s.mapEnv f g).finishOp op = (s.finishOp op).mapEnv f g := by
  rw [State.finishOp_fields, State.finishOp_fields, perform_mapEnv hlevel]
  rfl

theorem seqTurn_mapEnv (h : seqTurn s = .next t) : seqTurn (s.mapEnv f g) = .next (t.mapEnv f g) := by
  obtain ⟨hr, rfl⟩ | ⟨hr, hidle, rfl⟩ | ⟨hr, op, hop, rfl⟩ := seqTurn_cases h
  · exact takeTurn_seq_of_rst (s := s.mapEnv f g) hr
  · exact takeTurn_seq_of_idle (s := t.mapEnv f g) hr (t.busy_eq_false.mpr hidle)
  · rw [← finishOp_mapEnv hlevel]
    exact takeTurn_seq_of_getElem? (s := s.mapEnv f g) hr hop

theorem clkTurn_mapEnv (h : clkTurn s = .next t) : clkTurn (s.mapEnv f g) = .next (t.mapEnv f g) := by
  obtain ⟨hr, rfl⟩ | ⟨hr, hidle, rfl⟩ | ⟨hr, op, hop, hlast, rfl⟩ | ⟨hr, op, hop, hmore, rfl⟩ := clkTurn_cases h
  · exact takeTurn_clk_of_rst (s := s.mapEnv f g) hr
  · exact takeTurn_clk_of_idle (s := s.mapEnv f g) hr (s.busy_eq_false.mpr hidle)
  · rw [← finishOp_mapEnv hlevel]
    exact takeTurn_clk_of_last (s := s.mapEnv f g) hr hop hlast
  · exact takeTurn_clk_of_more (s := s.mapEnv f g) hr hop hmore

end

/-! ### The host -/

theorem writeCmd_mapEnv {w : Word} (h : writeCmd w s = .next t) :
    writeCmd w (s.mapEnv f g) = .next (t.mapEnv f g) := by
  obtain ⟨hb, hw⟩ | ⟨hb, ⟨r, hd⟩, hw⟩ | ⟨hb, i, hd, hw⟩ := writeCmd_cases w s <;> cases hw.symm.trans h
  · exact writeCmd_of_busy (s := s.mapEnv f g) hb w
  · exact writeCmd_of_error (s := s.mapEnv f g) hb hd
  · exact (writeCmd_of_decodeCmd hd _).trans (exec_of_idle (s := s.mapEnv f g) hb i)

theorem regWrite_mapEnv {off : Offset} {v : Word} (h : regWrite off v s = .next t) :
    regWrite off v (s.mapEnv f g) = .next (t.mapEnv f g) := by
  cases hr : s.rst with
  | true =>
    cases (regWrite_of_rst hr off v).symm.trans h
    exact regWrite_of_rst (s := s.mapEnv f g) hr off v
  | false =>
    by_cases h0 : off = 0#2
    · subst h0
      rw [regWrite_cmd hr] at h
      exact (regWrite_cmd (s := s.mapEnv f g) hr v).trans (writeCmd_mapEnv h)
    · by_cases h1 : off = 1#2
      · subst h1
        cases (regWrite_status hr v).symm.trans h
        exact regWrite_status (s := s.mapEnv f g) hr v
      · cases (regWrite_of_ne h0 h1 v s).symm.trans h
        exact regWrite_of_ne h0 h1 v _

/-- No access of the host looks at the environment (R38, R53). -/
theorem hostTurn_mapEnv (h : hostTurn s = .next t) : hostTurn (s.mapEnv f g) = .next (t.mapEnv f g) := by
  have hhost : (s.mapEnv f g).host = s.host := rfl
  obtain ⟨hnil, rfl⟩ | ⟨off, rest, hread, rfl⟩ | ⟨rest, hwait, rfl⟩ | ⟨off, v, rest, hwrite, hw⟩ := hostTurn_cases h
  · simp only [hostTurn, hhost, hnil]
  · exact takeTurn_host_of_read (s := s.mapEnv f g) hread
  · simp only [hostTurn, hhost, hwait]
    rfl
  · exact (takeTurn_host_of_write (s := s.mapEnv f g) hwrite).trans (regWrite_mapEnv hw :)

/-! ### Every turn -/

/-- Every turn but the environment's own goes the same way under any other environment at any other moment, if SDA
reads the same (R117). -/
theorem takeTurn_mapEnv {u : Turn} (hu : ∀ e, u ≠ .env e)
    (hlevel : (s.mapEnv f g).readLevel .sda = s.readLevel .sda) (h : takeTurn u s = .next t) :
    takeTurn u (s.mapEnv f g) = .next (t.mapEnv f g) := by
  cases u with
  | host => exact hostTurn_mapEnv h
  | seq => exact seqTurn_mapEnv hlevel h
  | clk => exact clkTurn_mapEnv hlevel h
  | env e => exact absurd rfl (hu e)
  | reset b => cases h; cases b <;> rfl

end

/-! ### READ_LEVEL(SCL) -/

theorem act_ne_readLevel_scl (p : Params) (op : MicroOp) : op.act p ≠ .readLevel .scl := by
  cases op <;> exact nofun

theorem readLevel_scl_of_takeTurn {s t : State} {u : Turn} (h : takeTurn u s = .next t)
    (ht : .readLevel .scl ∈ t.acts) : .readLevel .scl ∈ s.acts := by
  obtain ⟨-, -, htrace, -⟩ | ⟨op, -, rfl⟩ := takeTurn_pins_cases h
  · rwa [State.acts, htrace] at ht
  · rw [State.finishOp_acts, List.mem_append, List.mem_singleton] at ht
    exact ht.resolve_right (act_ne_readLevel_scl _ op).symm

end Sys2Proof.Machine

namespace Sys2Proof

open Machine

/-- Settles O54: SDA reads the same whatever devices do about SCL, and no micro-operation reads SCL (R38, R118). -/
theorem extLowOfSclAffectsNothing : Obligations.ExtLowOfSclAffectsNothing := by
  intro s t u b h
  refine ⟨?_, readLevel_scl_of_takeTurn h⟩
  by_cases hu : ∃ e, u = .env e
  · obtain ⟨e, rfl⟩ := hu
    cases h
    exact ⟨_, rfl, rfl⟩
  · rw [not_exists] at hu
    rw [State.withExtScl_eq_mapEnv]
    exact ⟨_, takeTurn_mapEnv hu rfl h, rfl⟩

/-- Settles O55: the two states are one under two environments at two moments (R117). -/
theorem readLevelsDetermineTheRun : Obligations.ReadLevelsDetermineTheRun := by
  intro s s' t u hforget hlevel h
  by_cases hu : ∃ e, u = .env e
  · obtain ⟨e, rfl⟩ := hu
    cases h
    exact ⟨_, rfl, hforget⟩
  · rw [not_exists] at hu
    have hmap := State.eq_mapEnv_of_forgetEnv hforget
    rw [hmap] at hlevel ⊢
    exact ⟨_, takeTurn_mapEnv hu hlevel.symm h, rfl⟩

end Sys2Proof
end
